-- ==== Sys2Proof/Word.lean ====
section
/-! DEFINITION. The word and byte types (spec R9) and fixed-length sequences of words. -/

namespace Sys2Proof

/-- An unsigned 32-bit word, the spec's `u32` (R9). -/
abbrev Word := BitVec 32

/-- A byte of a message, a block or a lane (R9, R52). -/
abbrev Byte := BitVec 8

/-- A byte offset inside the 256-byte register window (R50). -/
abbrev Offset := BitVec 8

/-- `n` words, index 0 first. -/
abbrev Words (n : Nat) := Vector Word n

/-- A block of 32 bytes, index 0 first (R12). -/
abbrev Block := Vector Byte 32

end Sys2Proof
end

