-- ==== Sys2Proof/Config.lean ====
section
/-! DEFINITION. The configuration (spec R7): the values this hardware takes, and the parameters the spec leaves
OPEN, each an opaque constant that no proof can evaluate. Configuration is not state and reset does not change
it (R240). -/

namespace Sys2Proof.Config

/-- NUM_ROUNDS (R7). -/
abbrev numRounds : Nat := 43

/-- CONSTANTS_PER_ROUND (R7). -/
abbrev constantsPerRound : Nat := 16

/-- NUM_CONSTANTS = 16 × NUM_ROUNDS (R7, R101). -/
abbrev numConstants : Nat := constantsPerRound * numRounds

/-- NUM_RC_BYTES = 4 × NUM_CONSTANTS (R7, R101). -/
abbrev numRcBytes : Nat := 4 * numConstants

/-- WORD_BITS (R7). -/
abbrev wordBits : Nat := 32

/-- STATE_WORDS (R7). -/
abbrev stateWords : Nat := 16

/-- DIGEST_BYTES (R7). -/
abbrev digestBytes : Nat := 32

/-- RATE_BYTES (R7, R23): state words 0..7. -/
abbrev rateBytes : Nat := 32

/-- CAPACITY_BYTES (R7, R23): state words 8..15. -/
abbrev capacityBytes : Nat := 32

/-- DELIMITER (R7, R156). -/
def delimiter : Byte := 0x06

/-- The text of SEED (R103), one line of 374 ASCII characters, cut after spaces into pieces that are one text when
joined. -/
def seedPieces : List String :=
  [ "The various ways in which the ",
    "knowledge on which people base ",
    "their plan is communicated to ",
    "them is the crucial problem for ",
    "any theory explaining the ",
    "economic process, and the problem ",
    "of what is the best way to ",
    "utilizing knowledge initially ",
    "dispersed among all the people is ",
    "at least one of the main problems ",
    "of economic policy - or of ",
    "designing an efficient economic ",
    "system." ]

/-- SEED (R103): the ASCII bytes of its text, with no newline and no terminator. -/
def seed : List Byte := (seedPieces.map String.toList).flatten.map fun ch => BitVec.ofNat 8 ch.toNat

/-- BIT_MATRIX (R123, D13), OPEN: 256 bits, row by row; bit 16k+j is 1 when input word k feeds output word j.
A FREE VALUE: nothing constrains it (log entry 7, safe). -/
opaque bitMatrix : BitVec 256

/-- COEF (R124, D14), OPEN: 48 rotation amounts in 0..31, the triple 3i, 3i+1, 3i+2 for word i.
A FREE VALUE: nothing constrains it (log entry 7, safe). -/
opaque coef : Vector (BitVec 5) 48

/-- Which 256-byte page of the bus the window occupies, OPEN (R50, D2). A free value (log entry 5, safe). -/
opaque basePage : Nat

/-- BASE (R50): the bus address of the window, a multiple of 256. -/
def base : Nat := 256 * basePage

/-- How a host can see a bus error (R180). -/
inductive BusErrorResponse where
  /-- a synchronous data abort -/
  | synchronousAbort
  /-- an imprecise abort -/
  | impreciseAbort
  /-- a lost access -/
  | lostAccess
  /-- any other response of the platform -/
  | other
deriving DecidableEq, Repr, Inhabited

/-- BUS_ERROR_RESPONSE (R180, D4), OPEN: how the host sees a bus error. It belongs to the host platform and no
rule of the block reads it (log entry 4). -/
opaque busErrorResponse : BusErrorResponse

/-- T_ROUND (R248, D36), OPEN: an implementation's clock cycles per round, which no rule reads (log entry 9). -/
opaque tRound : Nat

/-- T_GEN (R248, D36), OPEN: an implementation's clock cycles for the constants, which no rule reads (log entry 9). -/
opaque tGen : Nat

end Sys2Proof.Config
end

