-- ==== Sys2Proof/Syntax.lean ====
section
/-! DEFINITION. The commands of spec/opcode_table.json, one constructor a row (spec R81). -/

namespace Sys2Proof

/-- A legal command (R81, R83). The one operand is LEN of ABSORB_FINAL, five bits wide (R82), so that every value
of it is one the encoding admits. -/
inductive Instr where
  /-- INIT (R152): start a new hash computation. -/
  | init
  /-- ABSORB (R153): absorb one full, non-final block from DIN. -/
  | absorb
  /-- ABSORB_FINAL LEN (R154): pad and absorb the final block, which holds LEN message bytes. -/
  | absorbFinal (len : BitVec 5)
  /-- SQUEEZE (R155): read the digest out of the rate. -/
  | squeeze
deriving DecidableEq, Repr

end Sys2Proof
end

