-- ==== Sys2Proof/WellFormed.lean ====
section
/-! DEFINITION. What is well formed: a configuration (spec R8), a line of the assembler (R87), an instruction. -/

namespace Sys2Proof

/-- R8: a configuration is well formed only if 1 ≤ NUM_ROUNDS ≤ 255 and SEED is non-empty; one that is not is
refused at elaboration (`InvalidConfiguration`) and no hardware exists for it. -/
def Config.wf (numRounds : Nat) (seed : List Byte) : Bool :=
  decide (1 ≤ numRounds) && decide (numRounds ≤ 255) && !seed.isEmpty

/-- The mnemonics of R87. -/
inductive Mnemonic where
  | init
  | absorb
  | absorbFinal
  | squeeze
deriving DecidableEq, Repr

/-- An assembler line (R87): a mnemonic and at most one numeric operand. -/
structure AsmLine where
  mnemonic : Mnemonic
  operand  : Option Nat
deriving DecidableEq, Repr

/-- R87: an assembler refuses ABSORB_FINAL without an operand, a len outside 0..31, and an operand on any other
mnemonic. -/
def AsmLine.wf (l : AsmLine) : Bool :=
  match l.mnemonic, l.operand with
  | .absorbFinal, some n => decide (n ≤ 31)
  | .absorbFinal, none   => false
  | _, none              => true
  | _, some _            => false

/-- Every instruction is well formed: the type of its operand holds exactly the values 0..31 of R82. -/
def Instr.wf : Instr → Bool
  | .init            => true
  | .absorb          => true
  | .absorbFinal len => decide (len.toNat ≤ 31)
  | .squeeze         => true

end Sys2Proof
end

