-- ==== Sys2Proof/Decode.lean ====
section
/-! DEFINITION. The command word (spec R80 to R87): decoder, encoder, the opcode table's rows and the assembler. -/

namespace Sys2Proof

/-- Why a word is not a legal command (R84). Every reason is the one error code ERR_ILLEGAL_CMD at the block
(log entry 21). -/
inductive IllegalCmd where
  /-- OP is 0x0 or 0x5..0xF -/
  | reservedOp
  /-- LEN ≠ 0 with OP ≠ 0x3 -/
  | operandNotAllowed
  /-- RES ≠ 0 -/
  | reservedBits
  /-- the bytes are fewer than the one 32-bit word a command is (R86) -/
  | notOneWord
deriving DecidableEq, Repr

/-- OP, bits 3:0 of a command word (R80). -/
def cmdOp (w : Word) : BitVec 4 := w.extractLsb' 0 4

/-- LEN, bits 8:4 of a command word (R80, R82). -/
def cmdLen (w : Word) : BitVec 5 := w.extractLsb' 4 5

/-- RES, bits 31:9 of a command word (R80). -/
def cmdRes (w : Word) : BitVec 23 := w.extractLsb' 9 23

/-- The decoder (R80 to R84): a word is one of the 35 legal commands or illegal, with the reason. -/
def decode (w : Word) : Except IllegalCmd Instr :=
  if cmdRes w ≠ 0 then .error .reservedBits
  else if cmdOp w = 0x3 then .ok (.absorbFinal (cmdLen w))
  else if cmdOp w ≠ 0x1 ∧ cmdOp w ≠ 0x2 ∧ cmdOp w ≠ 0x4 then .error .reservedOp
  else if cmdLen w ≠ 0 then .error .operandNotAllowed
  else if cmdOp w = 0x1 then .ok .init
  else if cmdOp w = 0x2 then .ok .absorb
  else .ok .squeeze

/-- The word whose byte lanes 0..3 are the four bytes (R52): lane k is bits 8k+7:8k. -/
def wordOfLanes (b0 b1 b2 b3 : Byte) : Word := b3 ++ b2 ++ b1 ++ b0

/-- The decoder on bytes in address order: one command is exactly one 32-bit word (R86), little-endian (R52). It
answers the command and the bytes after it. -/
def decodeBytes : List Byte → Except IllegalCmd (Instr × List Byte)
  | b0 :: b1 :: b2 :: b3 :: rest =>
    match decode (wordOfLanes b0 b1 b2 b3) with
    | .ok i    => .ok (i, rest)
    | .error e => .error e
  | _ => .error .notOneWord

/-- The byte at place `k` of an instruction whose bits, numbered as spec/opcode_table.json numbers them, are the
low `nbits` bits of `w`; every bit above is 0. -/
def tableByte (nbits w k : Nat) : Byte := BitVec.ofNat 8 (w % 2 ^ nbits / 256 ^ k)

/-- What the decoder reads from an opcode-table word, laid out as a host's 32-bit write lays it out. -/
def decodeTableWord (nbits w : Nat) : Option Instr :=
  match decodeBytes [tableByte nbits w 0, tableByte nbits w 1, tableByte nbits w 2, tableByte nbits w 3] with
  | .ok (i, _) => some i
  | .error _   => none

/-- The encoder: the word of a command (R83, R87). -/
def encode : Instr → Word
  | .init            => 0x00000001
  | .absorb          => 0x00000002
  | .absorbFinal len => 0x00000003 ||| (len.setWidth 32 <<< 4)
  | .squeeze         => 0x00000004

/-- A row of the table of R83. -/
structure OpcodeRow where
  mnemonic : String
  matchBits : Word
  mask      : Word
deriving DecidableEq, Repr

/-- The table of R83. -/
def opcodeRows : List OpcodeRow :=
  [ ⟨"INIT",         0x00000001, 0xFFFFFFFF⟩,
    ⟨"ABSORB",       0x00000002, 0xFFFFFFFF⟩,
    ⟨"ABSORB_FINAL", 0x00000003, 0xFFFFFE0F⟩,
    ⟨"SQUEEZE",      0x00000004, 0xFFFFFFFF⟩ ]

/-- The row of the table of R83 a command belongs to. -/
def opcodeRowOf : Instr → OpcodeRow
  | .init          => ⟨"INIT",         0x00000001, 0xFFFFFFFF⟩
  | .absorb        => ⟨"ABSORB",       0x00000002, 0xFFFFFFFF⟩
  | .absorbFinal _ => ⟨"ABSORB_FINAL", 0x00000003, 0xFFFFFE0F⟩
  | .squeeze       => ⟨"SQUEEZE",      0x00000004, 0xFFFFFFFF⟩

/-- R83: a word is legal if and only if it matches exactly one row of the table. -/
def legalWord (w : Word) : Bool :=
  (opcodeRows.filter fun r => w &&& r.mask == r.matchBits).length == 1

/-- R87: the command an assembler line stands for; a line that is not well formed is refused. -/
def asmInstr (l : AsmLine) : Option Instr :=
  if l.wf then
    match l.mnemonic with
    | .init        => some .init
    | .absorb      => some .absorb
    | .absorbFinal => some (.absorbFinal (BitVec.ofNat 5 (l.operand.getD 0)))
    | .squeeze     => some .squeeze
  else none

/-- R87: the word of an assembler line. -/
def assemble (l : AsmLine) : Option Word := (asmInstr l).map encode

/-- The mnemonics' spelling (R87). -/
def mnemonicOfChars (cs : List Char) : Option Mnemonic :=
  if cs = "INIT".toList then some .init
  else if cs = "ABSORB".toList then some .absorb
  else if cs = "ABSORB_FINAL".toList then some .absorbFinal
  else if cs = "SQUEEZE".toList then some .squeeze
  else none

/-- The value of a digit; hexadecimal letters in either case (log entry 15). -/
def digitOfChar (c : Char) : Option Nat :=
  if '0' ≤ c ∧ c ≤ '9' then some (c.toNat - '0'.toNat)
  else if 'a' ≤ c ∧ c ≤ 'f' then some (c.toNat - 'a'.toNat + 10)
  else if 'A' ≤ c ∧ c ≤ 'F' then some (c.toNat - 'A'.toNat + 10)
  else none

/-- The number a run of digits of a radix writes, most significant first, on from `acc`. -/
def numberFrom (radix : Nat) : Nat → List Char → Option Nat
  | acc, []      => some acc
  | acc, c :: cs =>
    match digitOfChar c with
    | some d => if d < radix then numberFrom radix (acc * radix + d) cs else none
    | none   => none

/-- R87: a decimal or 0x number, of at least one digit. DESIGN CHOICE (log entry 15, safe): the `_` separators that R9
allows in the spec's own literals are refused in an operand, of which R87 does not say. -/
def numberOfChars : List Char → Option Nat
  | []                   => none
  | '0' :: 'x' :: c :: cs => numberFrom 16 0 (c :: cs)
  | cs                   => numberFrom 10 0 cs

/-- R87: the text of an assembler line, a mnemonic and, after one space, its operand (log entry 15). -/
def asmLineOfChars (cs : List Char) : Option AsmLine :=
  match mnemonicOfChars (cs.takeWhile (· ≠ ' ')), cs.dropWhile (· ≠ ' ') with
  | some m, []            => some ⟨m, none⟩
  | some m, _ :: operand  => (numberOfChars operand).map fun n => ⟨m, some n⟩
  | none, _               => none

end Sys2Proof
end

