-- ==== Sys2Proof/Machine/State.lean ====
section
/-! DEFINITION. The machine's state (spec R20), the environment that drives it, and the reasons a step can stop. -/

namespace Sys2Proof.Machine

/-- PHASE (R20, R24): the controller's place in the sponge state machine. -/
inductive Phase where
  /-- FRESH = 0, the source's `Fresh` -/
  | fresh
  /-- ABSORBING = 1, the source's `Absorbing` -/
  | absorbing
  /-- READY = 2, the source's `ReadyToSqueeze` -/
  | ready
  /-- SQUEEZED = 3, the source's `Squeezed` -/
  | squeezed
deriving DecidableEq, Repr

/-- The registers of the window (R30). -/
inductive Reg where
  | id
  | param
  | status
  | cmd
  | din (j : Fin 8)
  | dout (j : Fin 8)
  | rcIndex
  | rcData
deriving DecidableEq, Repr

/-- The widths a bus access can have (R57). -/
inductive Width where
  | w8
  | w16
  | w32
  | w64
deriving DecidableEq, Repr

/-- A line of the host's accesses (R88). The widths and offsets the block does not serve (R180) can be written too. -/
inductive HostLine where
  /-- WR: `RegWrite(off, v)`; the data of an access of another width than 32 bits is never looked at (R57; log entry 17) -/
  | wr (width : Width) (off : Offset) (v : Word)
  /-- RD: `RegRead(off)` -/
  | rd (width : Width) (off : Offset)
  /-- POLL: repeat a 32-bit RD until `value_read & mask = value` -/
  | poll (off : Offset) (mask value : Word)
deriving DecidableEq, Repr

/-- Who takes a step (R6, R240). -/
inductive Agent where
  /-- the host: one bus access -/
  | host
  /-- the permutation engine: one PERM_ROUND step (R129) -/
  | permEngine
  /-- the constant generator: the GEN step (R108) -/
  | generator
  /-- the environment: a reset (R240) -/
  | resetLine
deriving DecidableEq, Repr

/-- What stops the machine. -/
inductive Fault where
  /-- `AssertRoundIndex` (R128): raised by the PERM_ROUND step with ROUND outside 0..NUM_ROUNDS-1. Safe: the spec
  says no value results, and no run from reset gets there. -/
  | assertRoundIndex
deriving DecidableEq, Repr

/-- What the model has no step for. -/
inductive Refusal where
  /-- An instruction with no meaning yet; raised by `exec`'s arms alone. Safe: nothing is claimed of it. -/
  | notModelled (mnemonic : String)
  /-- `BusError(off)` (R180): raised by a host access that is not 32 bits wide, not word aligned or at a reserved
  offset. "A model refuses such an access: the host has no step for it." Safe: no state changes (log entry 4). -/
  | busError (off : Offset)
deriving DecidableEq, Repr

/-- The state. The first ten fields are the block's complete state (R20); the last three are the model's own and
are no part of the block: the environment that drives it (log entries 1 and 2). -/
structure State where
  /-- `S[0..15]`, the permutation state (R22); words 0..7 are the rate, 8..15 the capacity (R23) -/
  S          : Words 16
  /-- `PHASE` (R24) -/
  phase      : Phase
  /-- `ERR` (R29, R210) -/
  err        : BitVec 4
  /-- `PERM_ACTIVE` (R25) -/
  permActive : Bool
  /-- `ROUND` (R25) -/
  round      : BitVec 8
  /-- `RC_READY` (R27) -/
  rcReady    : Bool
  /-- `RC[0..NUM_CONSTANTS-1]` (R28) -/
  rc         : Words 688
  /-- `DIN[0..7]` (R35) -/
  din        : Words 8
  /-- `DOUT[0..7]` (R36) -/
  dout       : Words 8
  /-- `RC_INDEX` (R37) -/
  rcIndex    : BitVec 12
  /-- the host's accesses still to come, in the order the bus delivers them (R62, R88) -/
  host       : List HostLine
  /-- who takes each of the next steps (R62) -/
  turns      : List Agent
  /-- the words the host's RD lines have returned, newest first (R88) -/
  reads      : List Word
deriving DecidableEq, Repr

/-- The state right after reset (R20, R240). `rc` is unspecified and unreadable in the spec; its 0 here is the
model's (DESIGN CHOICE, log entry 6). The environment's three fields are empty (log entries 1 and 2). -/
def State.reset : State where
  S          := Vector.replicate 16 0
  phase      := .fresh
  err        := 0
  permActive := false
  round      := 0
  rcReady    := false
  rc         := Vector.replicate 688 0
  din        := Vector.replicate 8 0
  dout       := Vector.replicate 8 0
  rcIndex    := 0
  host       := []
  turns      := []
  reads      := []

end Sys2Proof.Machine
end

