-- ==== Sys2Proof/Machine/Operands.lean ====
section
/-! DEFINITION. The notation of spec R9, byte lanes and packing (R52 to R54), blocks (R153, R154) and the register
map's offsets (R30, R50). -/

namespace Sys2Proof.Machine

/-- `rotl(x, n)` for n in 0..31 (R9). -/
def rotl (x : Word) (n : BitVec 5) : Word := x.rotateLeft n.toNat

/-- `bswap32(x)` (R9): the four bytes of x reversed. -/
def bswap32 (x : Word) : Word :=
  x.extractLsb' 0 8 ++ x.extractLsb' 8 8 ++ x.extractLsb' 16 8 ++ x.extractLsb' 24 8

/-- Byte lane `k` of a register, bits 8k+7:8k (R52). -/
def lane (w : Word) (k : Nat) : Byte := w.extractLsb' (8 * k) 8

/-- Byte `b` of the block in DIN, `DIN[b >> 2][8*(b & 3)+7 : 8*(b & 3)]` (R35, R153). -/
def dinByte (din : Words 8) (b : Fin 32) : Byte := lane din[b.val / 4] (b.val % 4)

/-- The 32 bytes of DIN (R153). -/
def dinBlock (din : Words 8) : Block := Vector.ofFn fun b => dinByte din b

/-- The padded final block (R154): LEN bytes of DIN, DELIMITER, then zeros. -/
def finalBlock (din : Words 8) (len : BitVec 5) : Block :=
  Vector.ofFn fun b =>
    if b.val < len.toNat then dinByte din b
    else if b.val = len.toNat then Config.delimiter
    else 0x00

/-- `PackBE(B, j)` (R53): big-endian packing of bytes 4j..4j+3. -/
def packBE (B : Block) (j : Fin 8) : Word :=
  B[4 * j.val] ++ B[4 * j.val + 1] ++ B[4 * j.val + 2] ++ B[4 * j.val + 3]

/-- Little-endian packing of four bytes (R104). -/
def packLE (b0 b1 b2 b3 : Byte) : Word := b3 ++ b2 ++ b1 ++ b0

/-- The 32 digest bytes in DOUT: byte 4j+k is lane k of DOUTj (R36, R54). -/
def digestOfDout (dout : Words 8) : Block := Vector.ofFn fun b => lane dout[b.val / 4] (b.val % 4)

/-- The offset of a register (R30). -/
def regOffset : Reg → Offset
  | .id      => 0x00
  | .param   => 0x04
  | .status  => 0x08
  | .cmd     => 0x0C
  | .din j   => BitVec.ofNat 8 (0x10 + 4 * j.val)
  | .dout j  => BitVec.ofNat 8 (0x30 + 4 * j.val)
  | .rcIndex => 0x50
  | .rcData  => 0x54

/-- The register at an offset (R30); none where the offset is misaligned or reserved (R39, R56). -/
def regAt (off : Offset) : Option Reg :=
  let i := off.toNat / 4
  if off.toNat % 4 ≠ 0 then none
  else if i = 0 then some .id
  else if i = 1 then some .param
  else if i = 2 then some .status
  else if i = 3 then some .cmd
  else if i < 12 then some (.din (Fin.ofNat 8 (i - 4)))
  else if i < 20 then some (.dout (Fin.ofNat 8 (i - 12)))
  else if i = 20 then some .rcIndex
  else if i = 21 then some .rcData
  else none

/-- Admission (R180): the register an access reaches, none where the block answers `BusError(off)`. -/
def regOfAccess (width : Width) (off : Offset) : Option Reg :=
  if width = .w32 then regAt off else none

/-- The bus address of an offset, BASE + off (R10, R180). -/
def busAddress (off : Offset) : Nat := Config.base + off.toNat

/-- The offset of a bus address inside the window; an address outside it is not routed to the block (R50). -/
def windowOffset (addr : Nat) : Option Offset :=
  if Config.base ≤ addr ∧ addr < Config.base + 256 then some (BitVec.ofNat 8 (addr - Config.base)) else none

end Sys2Proof.Machine
end

