-- ==== Sys2Proof/Machine/Flags.lean ====
section
/-! DEFINITION. BUSY, the error codes, and the words of the STATUS, ID and PARAM registers (spec R26, R31 to R33,
R210). -/

namespace Sys2Proof.Machine

/-- `BUSY = PERM_ACTIVE | ~RC_READY` (R26). -/
def busy (s : State) : Bool := s.permActive || !s.rcReady

/-- The 2-bit code of a phase (R20). -/
def phaseCode : Phase → BitVec 2
  | .fresh     => 0
  | .absorbing => 1
  | .ready     => 2
  | .squeezed  => 3

/-- ERR = 0: no error since the last INIT or reset (R210). -/
def errNone : BitVec 4 := 0

/-- ERR_INVALID_STATE (R210). -/
def errInvalidState : BitVec 4 := 1

/-- ERR_BUSY (R210). -/
def errBusy : BitVec 4 := 2

/-- ERR_ILLEGAL_CMD (R210). -/
def errIllegalCmd : BitVec 4 := 3

/-- STATUS (R33): reserved 31:16, ROUND 15:8, ERR 7:4, PHASE 3:2, RC_READY 1, BUSY 0. -/
def statusWord (s : State) : Word :=
  0#16 ++ s.round ++ s.err ++ phaseCode s.phase ++ BitVec.ofBool s.rcReady ++ BitVec.ofBool (busy s)

/-- ID (R31): ASCII "EAG1" read as a big-endian number. -/
def idWord : Word := 0x45414731

/-- PARAM (R32): WORDS 31:24, DIGEST 23:16, RATE 15:8, ROUNDS 7:0. -/
def paramWord : Word :=
  BitVec.ofNat 8 Config.stateWords ++ BitVec.ofNat 8 Config.digestBytes ++ BitVec.ofNat 8 Config.rateBytes ++
    BitVec.ofNat 8 Config.numRounds

end Sys2Proof.Machine
end

