-- ==== Sys2Proof/Machine/Ops.lean ====
section
/-! DEFINITION. The named operations on the state: registers, recording an error and leaving the lock, the sponge's
rate, acceptance, reset. -/

namespace Sys2Proof.Machine

/-- RC_DATA (R38, R190): the indexed constant, 0 while the table is not ready or the index is out of range. -/
def rcDataWord (s : State) : Word :=
  if h : s.rcIndex.toNat < 688 then
    if s.rcReady then s.rc[s.rcIndex.toNat] else 0
  else 0

/-- The word a register reads as (R181 to R183, R186, R188 to R191). -/
def readReg (r : Reg) (s : State) : Word :=
  match r with
  | .id      => idWord
  | .param   => paramWord
  | .status  => statusWord s
  | .cmd     => 0
  | .din j   => s.din[j.val]
  | .dout j  => s.dout[j.val]
  | .rcIndex => s.rcIndex.setWidth 32
  | .rcData  => rcDataWord s

/-- Write DINj (R187). -/
def writeDin (j : Fin 8) (v : Word) (s : State) : State := { s with din := s.din.set j.val v }

/-- Write RC_INDEX (R191): bits 31:12 are ignored. -/
def writeRcIndex (v : Word) (s : State) : State := { s with rcIndex := v.extractLsb' 0 12 }

/-- `reject(code)` (R211): the command is discarded, and its code recorded if it is the first error. This is the
block's one way of taking an exception: it saves nothing but ERR (R216). -/
def reject (code : BitVec 4) (s : State) : State :=
  if s.err = errNone then { s with err := code } else s

/-- The lock (R212): ERR ≠ 0. -/
def locked (s : State) : Bool := s.err ≠ errNone

/-- The return from the lock (R217): ERR is cleared. -/
def releaseLock (s : State) : State := { s with err := errNone }

/-- `StartPerm()` (R130). -/
def startPerm (s : State) : State := { s with permActive := true, round := 0 }

/-- A block XORed into the rate: `S[j] ^ PackBE(B, j)` for j = 0..7, the capacity untouched (R153, R154). -/
def xorRate (S : Words 16) (B : Block) : Words 16 :=
  Vector.ofFn fun i => if h : i.val < 8 then S[i.val] ^^^ packBE B ⟨i.val, h⟩ else S[i.val]

/-- Words 0..7 of the permutation state, the rate (R23). -/
def rate (S : Words 16) : Words 8 := Vector.ofFn fun j => S[j.val]

/-- Absorb a block and start the permutation (R153, R154). -/
def absorbBlock (B : Block) (p : Phase) (s : State) : State :=
  startPerm { s with S := xorRate s.S B, phase := p }

/-- Acceptance of a legal command other than INIT (R150): busy, then lock, then phase. -/
def accept (allowed : Phase → Bool) (effect : State → State) (s : State) : Host.Outcome State Fault Refusal :=
  if busy s then .next (reject errBusy s)
  else if locked s then .next s
  else if allowed s.phase then .next (effect s)
  else .next (reject errInvalidState s)

/-- Acceptance of INIT (R150): in every phase and while locked, unless busy. -/
def acceptInit (effect : State → State) (s : State) : Host.Outcome State Fault Refusal :=
  if busy s then .next (reject errBusy s) else .next (effect s)

/-- An illegal command word (R84, R85, R150): busy comes first. -/
def rejectIllegal (s : State) : State :=
  if busy s then reject errBusy s else reject errIllegalCmd s

/-- The phases from which a block may be absorbed (R151). -/
def mayAbsorb : Phase → Bool
  | .fresh     => true
  | .absorbing => true
  | .ready     => false
  | .squeezed  => false

/-- The phase from which the digest may be squeezed (R151). -/
def maySqueeze : Phase → Bool
  | .fresh     => false
  | .absorbing => false
  | .ready     => true
  | .squeezed  => false

/-- The reset event (R240): every element of the block takes its reset value. The environment goes on (log entry 12). -/
def resetBlock (s : State) : State :=
  { State.reset with host := s.host, turns := s.turns, reads := s.reads }

end Sys2Proof.Machine
end

