-- ==== Sys2Proof/Machine/Controller.lean ====
section
/-! DEFINITION. The four commands (spec R152 to R155): what each does once accepted, and its meaning, which is the
whole of R150 for a legal word (log entry 11). -/

namespace Sys2Proof.Machine

/-- `DoINIT()` (R152). -/
def doInit (s : State) : State :=
  releaseLock { s with S := Vector.replicate 16 0, phase := .fresh, dout := Vector.replicate 8 0 }

/-- `DoABSORB()` (R153). -/
def doAbsorb (s : State) : State := absorbBlock (dinBlock s.din) .absorbing s

/-- `DoABSORB_FINAL(LEN)` (R154). -/
def doAbsorbFinal (len : BitVec 5) (s : State) : State := absorbBlock (finalBlock s.din len) .ready s

/-- `DoSQUEEZE()` (R155). -/
def doSqueeze (s : State) : State := { s with dout := rate s.S, phase := .squeezed }

/-- INIT (R150, R152). -/
def execInit (s : State) : Host.Outcome State Fault Refusal := acceptInit doInit s

/-- ABSORB (R150, R153). -/
def execAbsorb (s : State) : Host.Outcome State Fault Refusal := accept mayAbsorb doAbsorb s

/-- ABSORB_FINAL (R150, R154). -/
def execAbsorbFinal (len : BitVec 5) (s : State) : Host.Outcome State Fault Refusal :=
  accept mayAbsorb (doAbsorbFinal len) s

/-- SQUEEZE (R150, R155). -/
def execSqueeze (s : State) : Host.Outcome State Fault Refusal := accept maySqueeze doSqueeze s

end Sys2Proof.Machine
end

