-- ==== Sys2Proof/Machine/Xof.lean ====
section
/-! DEFINITION. SHAKE256, the XOF of spec R102 and D10. The spec names it by its standard, FIPS 202; its definition
is not in spec/ and is PRESUMED (log entry 8). -/

namespace Sys2Proof.Machine

/-- A 64-bit lane of the Keccak state. -/
abbrev KeccakLane := BitVec 64

/-- The state of Keccak-f[1600]: lane `a<x><y>` is FIPS 202's A[x, y]; the lanes stand in the order in which message
bytes fill them. -/
structure KeccakState where
  (a00 a10 a20 a30 a40 : KeccakLane)
  (a01 a11 a21 a31 a41 : KeccakLane)
  (a02 a12 a22 a32 a42 : KeccakLane)
  (a03 a13 a23 a33 a43 : KeccakLane)
  (a04 a14 a24 a34 a44 : KeccakLane)
deriving DecidableEq, Repr

/-- The state of 25 zero lanes. -/
def keccakZero : KeccakState :=
  ⟨0, 0, 0, 0, 0,
   0, 0, 0, 0, 0,
   0, 0, 0, 0, 0,
   0, 0, 0, 0, 0,
   0, 0, 0, 0, 0⟩

/-- The step θ: each lane takes the parities of the column before it and of the rotated column after it. -/
def keccakTheta : KeccakState → KeccakState
  | ⟨a00, a10, a20, a30, a40,
      a01, a11, a21, a31, a41,
      a02, a12, a22, a32, a42,
      a03, a13, a23, a33, a43,
      a04, a14, a24, a34, a44⟩ =>
    let c0 := a00 ^^^ a01 ^^^ a02 ^^^ a03 ^^^ a04
    let c1 := a10 ^^^ a11 ^^^ a12 ^^^ a13 ^^^ a14
    let c2 := a20 ^^^ a21 ^^^ a22 ^^^ a23 ^^^ a24
    let c3 := a30 ^^^ a31 ^^^ a32 ^^^ a33 ^^^ a34
    let c4 := a40 ^^^ a41 ^^^ a42 ^^^ a43 ^^^ a44
    let d0 := c4 ^^^ c1.rotateLeft 1
    let d1 := c0 ^^^ c2.rotateLeft 1
    let d2 := c1 ^^^ c3.rotateLeft 1
    let d3 := c2 ^^^ c4.rotateLeft 1
    let d4 := c3 ^^^ c0.rotateLeft 1
    ⟨a00 ^^^ d0, a10 ^^^ d1, a20 ^^^ d2, a30 ^^^ d3, a40 ^^^ d4,
      a01 ^^^ d0, a11 ^^^ d1, a21 ^^^ d2, a31 ^^^ d3, a41 ^^^ d4,
      a02 ^^^ d0, a12 ^^^ d1, a22 ^^^ d2, a32 ^^^ d3, a42 ^^^ d4,
      a03 ^^^ d0, a13 ^^^ d1, a23 ^^^ d2, a33 ^^^ d3, a43 ^^^ d4,
      a04 ^^^ d0, a14 ^^^ d1, a24 ^^^ d2, a34 ^^^ d3, a44 ^^^ d4⟩

/-- The steps ρ (each lane rotated by its offset) and π (lane (x, y) comes from lane (x + 3y, x)). -/
def keccakRhoPi : KeccakState → KeccakState
  | ⟨a00, a10, a20, a30, a40,
      a01, a11, a21, a31, a41,
      a02, a12, a22, a32, a42,
      a03, a13, a23, a33, a43,
      a04, a14, a24, a34, a44⟩ =>
    ⟨a00.rotateLeft 0, a11.rotateLeft 44, a22.rotateLeft 43,
      a33.rotateLeft 21, a44.rotateLeft 14,
      a30.rotateLeft 28, a41.rotateLeft 20, a02.rotateLeft 3,
      a13.rotateLeft 45, a24.rotateLeft 61,
      a10.rotateLeft 1, a21.rotateLeft 6, a32.rotateLeft 25,
      a43.rotateLeft 8, a04.rotateLeft 18,
      a40.rotateLeft 27, a01.rotateLeft 36, a12.rotateLeft 10,
      a23.rotateLeft 15, a34.rotateLeft 56,
      a20.rotateLeft 62, a31.rotateLeft 55, a42.rotateLeft 39,
      a03.rotateLeft 41, a14.rotateLeft 2⟩

/-- χ on three lanes of a row. -/
def keccakChiLane (a b c : KeccakLane) : KeccakLane := a ^^^ (~~~b &&& c)

/-- The step χ: each lane takes the two lanes after it in its row. -/
def keccakChi : KeccakState → KeccakState
  | ⟨a00, a10, a20, a30, a40,
      a01, a11, a21, a31, a41,
      a02, a12, a22, a32, a42,
      a03, a13, a23, a33, a43,
      a04, a14, a24, a34, a44⟩ =>
    ⟨keccakChiLane a00 a10 a20, keccakChiLane a10 a20 a30, keccakChiLane a20 a30 a40,
      keccakChiLane a30 a40 a00, keccakChiLane a40 a00 a10,
      keccakChiLane a01 a11 a21, keccakChiLane a11 a21 a31, keccakChiLane a21 a31 a41,
      keccakChiLane a31 a41 a01, keccakChiLane a41 a01 a11,
      keccakChiLane a02 a12 a22, keccakChiLane a12 a22 a32, keccakChiLane a22 a32 a42,
      keccakChiLane a32 a42 a02, keccakChiLane a42 a02 a12,
      keccakChiLane a03 a13 a23, keccakChiLane a13 a23 a33, keccakChiLane a23 a33 a43,
      keccakChiLane a33 a43 a03, keccakChiLane a43 a03 a13,
      keccakChiLane a04 a14 a24, keccakChiLane a14 a24 a34, keccakChiLane a24 a34 a44,
      keccakChiLane a34 a44 a04, keccakChiLane a44 a04 a14⟩

/-- The step ι: a round constant into lane (0, 0). -/
def keccakIota (k : KeccakLane) (a : KeccakState) : KeccakState := { a with a00 := a.a00 ^^^ k }

/-- One clock of the 8-bit shift register of the step ι, with feedback x⁸ + x⁶ + x⁵ + x⁴ + 1. -/
def keccakLfsrNext (r : BitVec 8) : BitVec 8 := if r.msb then (r <<< 1) ^^^ 0x71 else r <<< 1

/-- The shift register after `t` clocks, on from 1. -/
def keccakLfsr : Nat → BitVec 8
  | 0     => 1
  | t + 1 => keccakLfsrNext (keccakLfsr t)

/-- The round constant of round `i`: its bit 2^j - 1, for j = 0..6, is the register's low bit after 7i + j clocks, and
every other bit is 0. -/
def keccakConstant (i : Nat) : KeccakLane :=
  (List.range 7).foldl
    (fun k j => if (keccakLfsr (7 * i + j)).getLsbD 0 then k ||| BitVec.twoPow 64 (2 ^ j - 1) else k) 0

/-- A round of Keccak-f[1600]. -/
def keccakRound (a : KeccakState) (k : KeccakLane) : KeccakState :=
  keccakIota k (keccakChi (keccakRhoPi (keccakTheta a)))

/-- Keccak-f[1600]: rounds 0 to 23. -/
def keccakF (a : KeccakState) : KeccakState := (List.range 24).foldl (fun s i => keccakRound s (keccakConstant i)) a

/-- SHAKE256's rate in bytes: 17 lanes. -/
def shakeRate : Nat := 136

/-- Lane `i` of a block: its eight bytes, the first the least significant. -/
def shakeLane (block : List Byte) (i : Nat) : KeccakLane :=
  ((block.drop (8 * i)).take 8).foldr (fun b acc => acc <<< 8 ||| b.setWidth 64) 0

/-- A block of rate bytes XORed into the state. -/
def shakeXorBlock (block : List Byte) : KeccakState → KeccakState
  | ⟨a00, a10, a20, a30, a40,
      a01, a11, a21, a31, a41,
      a02, a12, a22, a32, a42,
      a03, a13, a23, a33, a43,
      a04, a14, a24, a34, a44⟩ =>
    ⟨a00 ^^^ shakeLane block 0, a10 ^^^ shakeLane block 1, a20 ^^^ shakeLane block 2,
      a30 ^^^ shakeLane block 3, a40 ^^^ shakeLane block 4,
      a01 ^^^ shakeLane block 5, a11 ^^^ shakeLane block 6, a21 ^^^ shakeLane block 7,
      a31 ^^^ shakeLane block 8, a41 ^^^ shakeLane block 9,
      a02 ^^^ shakeLane block 10, a12 ^^^ shakeLane block 11, a22 ^^^ shakeLane block 12,
      a32 ^^^ shakeLane block 13, a42 ^^^ shakeLane block 14,
      a03 ^^^ shakeLane block 15, a13 ^^^ shakeLane block 16, a23,
      a33, a43,
      a04, a14, a24,
      a34, a44⟩

/-- SHAKE's padding of the last block: the domain bits 1111 and the first padding bit in one byte, the closing
padding bit in the block's last byte. -/
def shakePad (m : List Byte) : List Byte :=
  let z := shakeRate - 1 - m.length % shakeRate
  if z = 0 then m ++ [0x9F] else m ++ [0x1F] ++ List.replicate (z - 1) 0x00 ++ [0x80]

/-- The state after the first `n` blocks of a padded message are absorbed. -/
def shakeAbsorb (p : List Byte) : Nat → KeccakState
  | 0     => keccakZero
  | n + 1 => keccakF (shakeXorBlock ((p.drop (shakeRate * n)).take shakeRate) (shakeAbsorb p n))

/-- The eight bytes of a lane, the least significant first. -/
def bytesOfLane (v : KeccakLane) : List Byte :=
  [v.extractLsb' 0 8, v.extractLsb' 8 8, v.extractLsb' 16 8, v.extractLsb' 24 8,
   v.extractLsb' 32 8, v.extractLsb' 40 8, v.extractLsb' 48 8, v.extractLsb' 56 8]

/-- The rate bytes of a state. -/
def shakeOutput (a : KeccakState) : List Byte :=
  ([ a.a00, a.a10, a.a20, a.a30, a.a40,
     a.a01, a.a11, a.a21, a.a31, a.a41,
     a.a02, a.a12, a.a22, a.a32, a.a42,
     a.a03, a.a13 ].map bytesOfLane).flatten

/-- `n` blocks of output, on from a state. -/
def shakeSqueeze : Nat → KeccakState → List Byte
  | 0, _     => []
  | n + 1, a => shakeOutput a ++ shakeSqueeze n (keccakF a)

/-- `XOF(m, n)` = the first n bytes of SHAKE256(m) (R102). -/
def shake256 (m : List Byte) (n : Nat) : List Byte :=
  let p := shakePad m
  (shakeSqueeze (n / shakeRate + 1) (shakeAbsorb p (p.length / shakeRate))).take n

end Sys2Proof.Machine
end

