-- ==== Sys2Proof/Machine/Generator.lean ====
section
/-! DEFINITION. The round constant generator (spec R100 to R112): the function and the GEN step. -/

namespace Sys2Proof.Machine

/-- Little-endian packing of a byte stream in groups of four (R104). -/
def packStream : List Byte → List Word
  | b0 :: b1 :: b2 :: b3 :: rest => packLE b0 b1 b2 b3 :: packStream rest
  | _                            => []

/-- `generate_constants(seed, num_rounds)` (R100 to R105); none is `InvalidConfiguration` (R8, R107). -/
def generateConstants (seed : List Byte) (numRounds : Nat) : Option (List Word) :=
  if Config.wf numRounds seed then some (packStream (shake256 seed (4 * (16 * numRounds)))) else none

/-- The effect of GEN (R108): RC is filled and RC_READY set. That `rcTable` is what `generateConstants` answers is
`Sys2Proof.Laws.generateConstants_seed`. -/
def genStep (s : State) : State := { s with rc := rcTable, rcReady := true }

end Sys2Proof.Machine
end

