-- ==== Sys2Proof/Machine/Permutation.lean ====
section
/-! DEFINITION. The permutation (spec R120 to R131): the four layers, the round, Perm, and the PERM_ROUND step. The
layers take BIT_MATRIX, COEF and RC as arguments. -/

namespace Sys2Proof.Machine

/-- BitMat (R123): output word j is the XOR of the input words k with `BIT_MATRIX[16k+j] = 1`. -/
def bitMat (m : BitVec 256) (S : Words 16) : Words 16 :=
  Vector.ofFn fun j =>
    (List.finRange 16).foldl (fun t k => if m.getLsbD (16 * k.val + j.val) then t ^^^ S[k.val] else t) 0

/-- Circ on one word (R124). -/
def circWord (x : Word) (c0 c1 c2 : BitVec 5) : Word := rotl x c0 ^^^ rotl x c1 ^^^ rotl x c2

/-- Circ (R124). -/
def circ (coef : Vector (BitVec 5) 48) (S : Words 16) : Words 16 :=
  Vector.ofFn fun i => circWord S[i.val] coef[3 * i.val] coef[3 * i.val + 1] coef[3 * i.val + 2]

/-- Inject (R125) with round r's slice `RC[16r .. 16r+15]` (R110). -/
def inject (rc : Words 688) (r : Fin Config.numRounds) (S : Words 16) : Words 16 :=
  Vector.ofFn fun i =>
    S[i.val] ^^^ rc[16 * r.val + i.val]'(by have hr : r.val < 43 := r.isLt; have hi := i.isLt; omega)

/-- The first word of an add-rotate-add pair (R126). -/
def arxFst (x y : Word) : Word := rotl (x + y) 8

/-- The second word of an add-rotate-add pair: it uses the new first word (R126). -/
def arxSnd (x y : Word) : Word := rotl y 24 + arxFst x y

/-- ARX (R126) on the pairs (2i, 2i+1). -/
def arx (S : Words 16) : Words 16 :=
  Vector.ofFn fun i =>
    if i.val % 2 = 0 then arxFst S[2 * (i.val / 2)] S[2 * (i.val / 2) + 1]
    else arxSnd S[2 * (i.val / 2)] S[2 * (i.val / 2) + 1]

/-- `Round(S, r) = ARX(Inject(Circ(BitMat(S)), r))` (R122). -/
def roundFn (m : BitVec 256) (coef : Vector (BitVec 5) 48) (rc : Words 688) (r : Fin Config.numRounds) (S : Words 16) :
    Words 16 :=
  arx (inject rc r (circ coef (bitMat m S)))

/-- The rounds 0, 1, …, n-1 applied to S (R121, R131). -/
def roundsFn (m : BitVec 256) (coef : Vector (BitVec 5) 48) (rc : Words 688) (n : Nat) (S : Words 16) : Words 16 :=
  ((List.finRange Config.numRounds).take n).foldl (fun S r => roundFn m coef rc r S) S

/-- `Perm(S)` (R121): all NUM_ROUNDS rounds in increasing order of index. -/
def perm (m : BitVec 256) (coef : Vector (BitVec 5) 48) (rc : Words 688) (S : Words 16) : Words 16 :=
  (List.finRange Config.numRounds).foldl (fun S r => roundFn m coef rc r S) S

/-- The block's round, with its own BIT_MATRIX and COEF (R120). -/
def blockRound (rc : Words 688) (r : Fin Config.numRounds) (S : Words 16) : Words 16 :=
  roundFn Config.bitMatrix Config.coef rc r S

/-- The block's permutation, with its own BIT_MATRIX and COEF (R120, R121). -/
def blockPerm (rc : Words 688) (S : Words 16) : Words 16 := perm Config.bitMatrix Config.coef rc S

/-- The PERM_ROUND step (R129), with the model fault of R128. -/
def permRound (s : State) : Host.Outcome State Fault Refusal :=
  if h : s.round.toNat < Config.numRounds then
    if s.round.toNat + 1 = Config.numRounds then
      .next { s with S := blockRound s.rc ⟨s.round.toNat, h⟩ s.S, permActive := false, round := 0 }
    else
      .next { s with S := blockRound s.rc ⟨s.round.toNat, h⟩ s.S, round := s.round + 1 }
  else .fault .assertRoundIndex

end Sys2Proof.Machine
end

