-- ==== Sys2Proof/Machine/Bus.lean ====
section
/-! DEFINITION. Command words (spec R150), host accesses (R180 to R191), and whose step comes next (R6, R62, R249). -/

namespace Sys2Proof.Machine

/-- `AcceptCmd(w)` (R150): a legal word runs its command's meaning, any other is rejected. -/
def acceptCmd (w : Word) (s : State) : Host.Outcome State Fault Refusal :=
  match decode w with
  | .ok i    => exec i s
  | .error _ => .next (rejectIllegal s)

/-- A write to a register (R184, R185, R187, R191); a read-only register ignores it. -/
def writeReg (r : Reg) (v : Word) (s : State) : Host.Outcome State Fault Refusal :=
  match r with
  | .cmd     => acceptCmd v s
  | .din j   => .next (writeDin j v s)
  | .rcIndex => .next (writeRcIndex v s)
  | .id      => .next s
  | .param   => .next s
  | .status  => .next s
  | .dout _  => .next s
  | .rcData  => .next s

/-- `RegWrite(off, v)` (R180). -/
def regWrite (width : Width) (off : Offset) (v : Word) (s : State) : Host.Outcome State Fault Refusal :=
  match regOfAccess width off with
  | some r => writeReg r v s
  | none   => .refused (.busError off)

/-- `RegRead(off)` (R180): the word read, none where the block answers `BusError(off)`. -/
def regRead (width : Width) (off : Offset) (s : State) : Option Word :=
  match regOfAccess width off with
  | some r => some (readReg r s)
  | none   => none

/-- `MemRead(addr, width)` at a bus address (R10): `RegRead` at its offset; none too where the address is not the
block's. -/
def memRead (width : Width) (addr : Nat) (s : State) : Option Word :=
  match windowOffset addr with
  | some off => regRead width off s
  | none     => none

/-- `MemWrite(addr, width, v)` at a bus address (R10): `RegWrite` at its offset; an address outside the window is not
routed to the block, which does nothing (R50). -/
def memWrite (width : Width) (addr : Nat) (v : Word) (s : State) : Host.Outcome State Fault Refusal :=
  match windowOffset addr with
  | some off => regWrite width off v s
  | none     => .next s

/-- One access of the host (R88): a POLL line stays until its RD answers what it waits for (log entry 13). A host
with nothing to do does nothing. -/
def hostTurn (s : State) : Host.Outcome State Fault Refusal :=
  match s.host with
  | [] => .next s
  | .wr width off v :: rest => regWrite width off v { s with host := rest }
  | .rd width off :: rest =>
    match regRead width off s with
    | some v => .next { s with host := rest, reads := v :: s.reads }
    | none   => .refused (.busError off)
  | .poll off mask value :: rest =>
    match regRead .w32 off s with
    | some v => .next (if v &&& mask = value then { s with host := rest } else s)
    | none   => .refused (.busError off)

/-- The permutation engine's turn (R129): nothing while PERM_ACTIVE = 0. -/
def permTurn (s : State) : Host.Outcome State Fault Refusal :=
  if s.permActive then permRound s else .next s

/-- The constant generator's turn (R108): nothing while RC_READY = 1. -/
def genTurn (s : State) : Host.Outcome State Fault Refusal :=
  .next (if s.rcReady then s else genStep s)

/-- One agent's turn (R6, R240). -/
def agentTurn (a : Agent) (s : State) : Host.Outcome State Fault Refusal :=
  match a with
  | .host       => hostTurn s
  | .permEngine => permTurn s
  | .generator  => genTurn s
  | .resetLine  => .next (resetBlock s)

/-- Whose step it is when `turns` names nobody: an enabled engine before the host, which is fair (R249; log entry 3). -/
def defaultAgent (s : State) : Agent :=
  if !s.rcReady then .generator else if s.permActive then .permEngine else .host

/-- The next step in the total order of all agents' steps (R62). -/
def nextTurn (s : State) : Host.Outcome State Fault Refusal :=
  match s.turns with
  | []        => agentTurn (defaultAgent s) s
  | a :: rest => agentTurn a { s with turns := rest }

/-- The block after its boot: the GEN step taken if it has not been (R108, R242). -/
def booted (s : State) : State := if s.rcReady then s else genStep s

/-- A command word made the next thing that happens: the host's next access is a write of it to CMD, and the next
turn is the host's, on a block past its boot (log entry 10). -/
def presentWord (w : Word) (s : State) : State :=
  { booted s with host := .wr .w32 (regOffset .cmd) w :: s.host, turns := .host :: s.turns }

end Sys2Proof.Machine
end

