-- ==== Sys2Proof/Machine/Step.lean ====
section
/-! DEFINITION. One step of the machine, and an instruction placed where the next step runs it. -/

namespace Sys2Proof.Machine

/-- One step: the next one in the total order of all agents' steps (spec R6, R62). -/
def step (s : State) : Host.Outcome State Fault Refusal := nextTurn s

/-- `s` with an opcode-table word as the command the next step presents (log entry 10). -/
def State.withFetchWord (s : State) (nbits w : Nat) : State :=
  presentWord
    (wordOfLanes (tableByte nbits w 0) (tableByte nbits w 1) (tableByte nbits w 2) (tableByte nbits w 3)) s

end Sys2Proof.Machine
end

