-- ==== Sys2Proof/Machine/Sponge.lean ====
section
/-! DEFINITION. The hash as the spec defines it (R156, R157, R159), and the host's pseudo-instructions (R88, R89). The
block does not compute these as one operation: they say what its commands together amount to. -/

namespace Sys2Proof.Machine

/-- `Pad(M) = M ++ [DELIMITER] ++ [0x00] * z`, z the least that makes the length a multiple of 32 (R156). -/
def pad (M : List Byte) : List Byte :=
  M ++ [Config.delimiter] ++ List.replicate (31 - M.length % 32) 0x00

/-- `nblk = floor(n / 32) + 1` (R157). -/
def blockCount (M : List Byte) : Nat := M.length / 32 + 1

/-- Block i of a padded message: bytes 32i..32i+31 (R157). -/
def blockOf (p : List Byte) (i : Nat) : Block := Vector.ofFn fun b => p.getD (32 * i + b.val) 0x00

/-- Absorb the blocks of a list, each followed by one permutation (R159). -/
def absorbAll (permutation : Words 16 → Words 16) (S : Words 16) (blocks : List Block) : Words 16 :=
  blocks.foldl (fun S B => permutation (xorRate S B)) S

/-- The blocks of Pad(M), in order (R157). -/
def paddedBlocks (M : List Byte) : List Block := (List.range (blockCount M)).map (blockOf (pad M))

/-- `EaglesongHash(M)` (R159) over a permutation: the 32 bytes of the rate, little-endian in each word. -/
def eaglesongHash (permutation : Words 16 → Words 16) (M : List Byte) : Block :=
  digestOfDout (rate (absorbAll permutation (Vector.replicate 16 0) (paddedBlocks M)))

/-- WR of a register (R88). -/
def wrReg (r : Reg) (v : Word) : HostLine := .wr .w32 (regOffset r) v

/-- RD of a register (R88). -/
def rdReg (r : Reg) : HostLine := .rd .w32 (regOffset r)

/-- WR CMD of a command (R88). -/
def wrCmd (i : Instr) : HostLine := wrReg .cmd (encode i)

/-- WAIT: `POLL STATUS, 0x1, 0x0` (R89). -/
def waitLine : HostLine := .poll (regOffset .status) 0x1 0x0

/-- The DIN word of bytes 4j..4j+3 of a list, `fill` past its end (R89). -/
def dinWordOf (bytes : List Byte) (fill : Byte) (j : Nat) : Word :=
  packLE (bytes.getD (4 * j) fill) (bytes.getD (4 * j + 1) fill) (bytes.getD (4 * j + 2) fill)
    (bytes.getD (4 * j + 3) fill)

/-- LOADBLK b0..b31 (R89). -/
def loadBlk (bytes : List Byte) : List HostLine :=
  (List.finRange 8).map fun j => wrReg (.din j) (dinWordOf bytes 0x00 j.val)

/-- LOADFINAL b0..b(r-1) (R89): DINj for j = 0..ceil(r/4)-1. "lanes past r-1 may hold anything": they hold `fill`
(log entry 14). -/
def loadFinal (fill : Byte) (bytes : List Byte) : List HostLine :=
  ((List.finRange 8).take ((bytes.length + 3) / 4)).map fun j => wrReg (.din j) (dinWordOf bytes fill j.val)

/-- READDIGEST (R89): RD DOUTj for j = 0..7. -/
def readDigest : List HostLine := (List.finRange 8).map fun j => rdReg (.dout j)

/-- One full block of HASH: LOADBLK, ABSORB, WAIT (R89). -/
def hashBlockLines (M : List Byte) (i : Nat) : List HostLine :=
  loadBlk ((M.drop (32 * i)).take 32) ++ [wrCmd .absorb, waitLine]

/-- HASH M (R89, R158). -/
def hashLines (fill : Byte) (M : List Byte) : List HostLine :=
  [waitLine, wrCmd .init] ++ ((List.range (M.length / 32)).map (hashBlockLines M)).flatten ++
    loadFinal fill (M.drop (32 * (M.length / 32))) ++
    [wrCmd (.absorbFinal (BitVec.ofNat 5 (M.length % 32))), waitLine, wrCmd .squeeze] ++ readDigest

end Sys2Proof.Machine
end

