-- ==== Sys2Proof/Safety.lean ====
section
/-! DEFINITION. What every reachable state satisfies, which part of the state a computation's control is, and when two
states agree on what a host can see. -/

namespace Sys2Proof

open Sys2Proof.Machine

/-- The invariant of the block. Each clause is a rule of the spec. -/
structure BlockInv (s : State) : Prop where
  /-- ERR holds 0 or one of the three codes; 4..15 never occur (R33, R210) -/
  errLegal : s.err.toNat ≤ 3
  /-- ROUND is in 0..NUM_ROUNDS-1 (R25, R128) -/
  roundLegal : s.round.toNat < Config.numRounds
  /-- ROUND is 0 whenever PERM_ACTIVE = 0 (R25) -/
  roundIdle : s.permActive = false → s.round = 0
  /-- a permutation runs only after GEN (R108, R150) -/
  activeReady : s.permActive = true → s.rcReady = true
  /-- a permutation runs only in the phases an absorb command leads to (R25, R151) -/
  activePhase : s.permActive = true → s.phase = .absorbing ∨ s.phase = .ready
  /-- after GEN, RC is the table (R108, R109) -/
  rcTable : s.rcReady = true → s.rc = Machine.rcTable
  /-- DOUT is all 0 in every phase other than SQUEEZED (R36) -/
  doutZero : s.phase ≠ .squeezed → s.dout = Vector.replicate 8 0
  /-- in SQUEEZED, DOUT is the rate (R155, R189) -/
  doutRate : s.phase = .squeezed → s.dout = rate s.S
  /-- in FRESH, S is all 0 (R152, R240) -/
  freshZero : s.phase = .fresh → s.S = Vector.replicate 16 0
  /-- before GEN no command has been accepted (R108, R150) -/
  unreadyFresh : s.rcReady = false → s.phase = .fresh

/-- A safe state: the next step meets no model fault (R128). A bus error is a refusal, not a fault (R180). -/
def Safe (s : State) : Prop := ∀ f, step s ≠ .fault f

/-- The control elements: those no data value may steer (R132, R248). -/
structure Control where
  phase      : Phase
  err        : BitVec 4
  permActive : Bool
  round      : BitVec 8
  rcReady    : Bool
deriving DecidableEq, Repr

/-- The control elements of a state. -/
def controlOf (s : State) : Control where
  phase      := s.phase
  err        := s.err
  permActive := s.permActive
  round      := s.round
  rcReady    := s.rcReady

/-- Two outcomes whose states are related, or which are the same fault or refusal. -/
def outcomeRel (r : State → State → Prop) : Host.Outcome State Fault Refusal → Host.Outcome State Fault Refusal → Prop
  | .next s, .next t       => r s t
  | .fault e, .fault f     => e = f
  | .refused e, .refused f => e = f
  | _, _                   => False

/-- Two states that differ at most in RC, before GEN has filled it. -/
def sameBeforeGen (s t : State) : Prop :=
  s.rcReady = false ∧ t = { s with rc := t.rc }

/-- Nothing tells the two apart any more than that: they are equal, or still before GEN. -/
def sameButUnreadyRc (s t : State) : Prop := s = t ∨ sameBeforeGen s t

/-- The elements of the block are the same: only the host's lines, the turns and the words read may differ. -/
def sameBlock (s t : State) : Prop :=
  t = { s with host := t.host, turns := t.turns, reads := t.reads }

end Sys2Proof
end

