-- ==== Sys2Proof/Certificates/Slice0/Obligations.lean ====
section
/-! DEFINITION. The statements for the provers. The first part holds the terms they are written in; each obligation's
docstring names the rule of the spec it formalises. -/

namespace Sys2Proof.Stated

open Sys2Proof Sys2Proof.Machine

/-- Whose step is next. -/
def turnOf (s : State) : Agent :=
  match s.turns with
  | []     => defaultAgent s
  | a :: _ => a

/-- The next step is the host's write of `w` to CMD, offset 0x00C. -/
def presents (s : State) (w : Word) : Prop :=
  turnOf s = .host ∧ ∃ rest, s.host = .wr .w32 0x0C w :: rest

/-- The next step is the host's write of INIT to CMD, and the block is not busy. -/
def acceptsInit (s : State) : Prop := presents s 0x1 ∧ busy s = false

/-- The next step is the host's write of the command to CMD, and nothing but its phase can keep it from acceptance. -/
def mayAccept (s : State) (i : Instr) : Prop :=
  presents s (encode i) ∧ busy s = false ∧ (i = .init ∨ s.err = 0)

/-- `reject(code)` of R211. -/
def recordErr (code : BitVec 4) (s : State) : State := { s with err := if s.err = 0 then code else s.err }

/-- The table of R151: the phase an accepted command leaves, none where the command is out of phase. -/
def phaseAfter : Phase → Instr → Option Phase
  | _,          .init          => some .fresh
  | .fresh,     .absorb        => some .absorbing
  | .absorbing, .absorb        => some .absorbing
  | .ready,     .absorb        => none
  | .squeezed,  .absorb        => none
  | .fresh,     .absorbFinal _ => some .ready
  | .absorbing, .absorbFinal _ => some .ready
  | .ready,     .absorbFinal _ => none
  | .squeezed,  .absorbFinal _ => none
  | .fresh,     .squeeze       => none
  | .absorbing, .squeeze       => none
  | .ready,     .squeeze       => some .squeezed
  | .squeezed,  .squeeze       => none

/-- Byte b of the padded final block, as R154 writes it, in the low bits of a word. -/
def finalByte (din : Words 8) (len : BitVec 5) (b : Nat) : Word :=
  if b < len.toNat then (din.toList.getD (b >>> 2) 0 >>> (8 * (b % 4))) &&& 0xFF
  else if b = len.toNat then 0x06
  else 0x00

/-- `PackBE(B, j)` of R53 on the padded final block. -/
def finalWord (din : Words 8) (len : BitVec 5) (j : Nat) : Word :=
  (finalByte din len (4 * j) <<< 24) ||| (finalByte din len (4 * j + 1) <<< 16) |||
    (finalByte din len (4 * j + 2) <<< 8) ||| finalByte din len (4 * j + 3)

/-- `rotl(x, n)` of R9, for n in 0..31. -/
def rotlBits (x : Word) (n : Nat) : Word := if n = 0 then x else (x <<< n) ||| (x >>> (32 - n))

/-- The value of PHASE (R20). -/
def phaseBits : Phase → Word
  | .fresh     => 0
  | .absorbing => 1
  | .ready     => 2
  | .squeezed  => 3

/-- The STATUS word of R183. -/
def statusBits (s : State) : Word :=
  (s.round.setWidth 32 <<< 8) ||| (s.err.setWidth 32 <<< 4) |||
    (phaseBits s.phase <<< 2) ||| ((if s.rcReady then (1 : Word) else (0 : Word)) <<< (1 : Nat)) |||
    (if s.permActive = true ∨ s.rcReady = false then 1 else 0)

/-- The offset and the width of an admitted access (R180). -/
def admitted (width : Width) (off : Offset) : Prop :=
  width = .w32 ∧ off.toNat % 4 = 0 ∧ off.toNat < 0x58

/-- The offsets a write to which changes state (R192): CMD, DIN0..DIN7, RC_INDEX. -/
def writable (off : Offset) : Prop :=
  off.toNat = 0x0C ∨ (0x10 ≤ off.toNat ∧ off.toNat < 0x30) ∨ off.toNat = 0x50

/-- The word-wise XOR of two permutation states. -/
def xorWords (S T : Words 16) : Words 16 := Vector.ofFn fun i => S[i.val] ^^^ T[i.val]

end Sys2Proof.Stated

open Sys2Proof Sys2Proof.Machine Sys2Proof.Stated

/-! ### Encoding -/

/-- R80 to R87. A word decodes to a command exactly when it is that command's word: decoding an encoded command gives it
back, with LEN at every value, and no other word decodes to it. -/
def Obligations.DecodeInvertsEncode : Prop :=
  ∀ (w : Word) (i : Instr), decode w = .ok i ↔ w = encode i

/-- R83. The decoder accepts a word exactly when it matches exactly one row of the table; the rows never overlap; the
legal words are INIT, ABSORB and SQUEEZE once each and ABSORB_FINAL with each LEN, 35 in all. -/
def Obligations.LegalWordsAreTheTable : Prop :=
  (∀ w : Word, (∃ i, decode w = .ok i) ↔ ∃! r, r ∈ opcodeRows ∧ w &&& r.mask = r.matchBits) ∧
  (∀ (w : Word) (r q : OpcodeRow), r ∈ opcodeRows → q ∈ opcodeRows →
    w &&& r.mask = r.matchBits → w &&& q.mask = q.matchBits → r = q) ∧
  (∀ w : Word, (∃ i, decode w = .ok i) ↔
    w = 0x1 ∨ w = 0x2 ∨ w = 0x4 ∨ ∃ len : BitVec 5, w = 0x3 ||| (len.setWidth 32 <<< 4)) ∧
  (∃ l : List Word, l.Nodup ∧ l.length = 35 ∧ ∀ w, w ∈ l ↔ ∃ i, decode w = .ok i)

/-- R84, R85. The illegal words are those with OP 0x0 or 0x5..0xF, RES ≠ 0, or LEN ≠ 0 with OP ≠ 0x3; one has no effect
but on ERR, which takes ERR_BUSY or ERR_ILLEGAL_CMD if it held none. -/
def Obligations.IllegalWordOnlyRecordsError : Prop :=
  ∀ w : Word,
    ((∃ e, decode w = .error e) ↔
      (w.extractLsb' 0 4).toNat = 0 ∨ 5 ≤ (w.extractLsb' 0 4).toNat ∨ w.extractLsb' 9 23 ≠ 0 ∨
        (w.extractLsb' 4 5 ≠ 0 ∧ (w.extractLsb' 0 4).toNat ≠ 3)) ∧
    ((∃ e, decode w = .error e) → ∀ s : State,
      acceptCmd w s = .next { s with err := if s.err ≠ 0 then s.err else if busy s then 2 else 3 })

/-- 95_test_vectors.md W-1 to W-13: the words the spec writes out. A sanity statement. -/
def Obligations.SpecWordsDecode : Prop :=
  decode 0x00000001 = .ok .init ∧ decode 0x00000002 = .ok .absorb ∧
  decode 0x00000003 = .ok (.absorbFinal 0) ∧ decode 0x00000013 = .ok (.absorbFinal 1) ∧
  decode 0x00000103 = .ok (.absorbFinal 16) ∧ decode 0x000001F3 = .ok (.absorbFinal 31) ∧
  decode 0x00000004 = .ok .squeeze ∧
  (∀ w ∈ ([0x00000000, 0x00000203, 0x00000005, 0x0000000F, 0x00000011, 0x00000012, 0x00000014, 0x80000001,
    0xFFFFFFFF] : List Word), (decode w).isOk = false)

/-- R87. The words of the assembler's lines, and the lines it refuses. -/
def Obligations.AssemblerWordsAndRefusals : Prop :=
  assemble ⟨.init, none⟩ = some 0x1 ∧ assemble ⟨.absorb, none⟩ = some 0x2 ∧ assemble ⟨.squeeze, none⟩ = some 0x4 ∧
  (∀ n : Nat, n ≤ 31 → assemble ⟨.absorbFinal, some n⟩ = some (0x3 ||| (BitVec.ofNat 32 n <<< 4))) ∧
  (∀ n : Nat, 31 < n → assemble ⟨.absorbFinal, some n⟩ = none) ∧
  assemble ⟨.absorbFinal, none⟩ = none ∧
  (∀ (m : Mnemonic) (n : Nat), m ≠ .absorbFinal → assemble ⟨m, some n⟩ = none)

/-! ### Steps -/

/-- R58, R185, R187, R191. A step in which the host writes is that register write, on the state with the access delivered
and the turn taken; a 32-bit write to CMD runs `AcceptCmd` on its word, and, when the word decodes to a command, is `exec`
of that command. The turn is the host's when `turns` says so, or when `turns` is empty and no engine step is enabled (the
model's default order, log entry 3). -/
def Obligations.StepRunsPresentedCommand : Prop :=
  ∀ (s : State) (width : Width) (off : Offset) (v : Word) (rest : List HostLine) (ts : List Agent),
    s.host = .wr width off v :: rest →
    (s.turns = .host :: ts ∨ (s.turns = [] ∧ ts = [] ∧ busy s = false)) →
    step s = regWrite width off v { s with host := rest, turns := ts } ∧
    (width = .w32 → off = 0x0C →
      step s = acceptCmd v { s with host := rest, turns := ts } ∧
      ∀ i, decode v = .ok i → step s = exec i { s with host := rest, turns := ts })

/-- The model's `withFetchWord` (log entry 10): the next step is `exec` of the encoded command on the state past its boot;
on a state whose table is ready, on that very state. -/
def Obligations.FetchWordRunsTheCommand : Prop :=
  ∀ (s : State) (i : Instr),
    step (s.withFetchWord 32 (encode i).toNat) = exec i (if s.rcReady then s else { s with rc := rcTable, rcReady := true })

/-- R88. A RD line delivers the word read to the host and changes nothing else; a POLL line whose word does not yet answer
it stays, and one whose word does is done. -/
def Obligations.HostReadSteps : Prop :=
  ∀ (s : State) (ts : List Agent) (rest : List HostLine) (off : Offset) (v : Word),
    s.turns = .host :: ts → regRead .w32 off s = some v →
    (s.host = .rd .w32 off :: rest → step s = .next { s with turns := ts, host := rest, reads := v :: s.reads }) ∧
    (∀ mask value, s.host = .poll off mask value :: rest →
      step s = .next (if v &&& mask = value then { s with turns := ts, host := rest } else { s with turns := ts }))

/-! ### Acceptance of commands -/

/-- R150. `AcceptCmd(w)`, test by test. -/
def Obligations.AcceptCmdTestsInOrder : Prop :=
  ∀ (w : Word) (s : State),
    acceptCmd w s = .next (
      if s.permActive = true ∨ s.rcReady = false then recordErr 2 s
      else if legalWord w = false then recordErr 3 s
      else if w.extractLsb' 0 4 = 0x1 then doInit s
      else if s.err ≠ 0 then s
      else if w.extractLsb' 0 4 = 0x2 then
        if s.phase = .fresh ∨ s.phase = .absorbing then doAbsorb s else recordErr 1 s
      else if w.extractLsb' 0 4 = 0x3 then
        if s.phase = .fresh ∨ s.phase = .absorbing then doAbsorbFinal (w.extractLsb' 4 5) s else recordErr 1 s
      else if s.phase = .ready then doSqueeze s else recordErr 1 s)

/-- R152. INIT is accepted in every phase and while locked: S, DOUT and ERR are zeroed, PHASE is FRESH, nothing else
changes; it is rejected only while BUSY = 1. -/
def Obligations.InitResult : Prop :=
  ∀ s : State,
    (busy s = false → exec .init s = .next { s with
      S := Vector.replicate 16 0, phase := .fresh, err := 0, dout := Vector.replicate 8 0 }) ∧
    (busy s = true → exec .init s = .next (recordErr 2 s))

/-- R153, R53. An accepted ABSORB XORs `bswap32(DINj)` into word j of the rate, leaves the capacity, sets PHASE to
ABSORBING and starts the permutation; nothing else changes. -/
def Obligations.AbsorbResult : Prop :=
  ∀ s : State, busy s = false → s.err = 0 → (s.phase = .fresh ∨ s.phase = .absorbing) →
    exec .absorb s = .next { s with
      S := Vector.ofFn fun i : Fin 16 => if h : i.val < 8 then s.S[i.val] ^^^ bswap32 s.din[i.val] else s.S[i.val]
      phase := .absorbing, permActive := true, round := 0 }

/-- R154, R53. An accepted ABSORB_FINAL XORs the padded final block into the rate, big-endian, leaves the capacity, sets
PHASE to READY and starts the permutation; nothing else changes. -/
def Obligations.AbsorbFinalResult : Prop :=
  ∀ (len : BitVec 5) (s : State), busy s = false → s.err = 0 → (s.phase = .fresh ∨ s.phase = .absorbing) →
    exec (.absorbFinal len) s = .next { s with
      S := Vector.ofFn fun i : Fin 16 => if i.val < 8 then s.S[i.val] ^^^ finalWord s.din len i.val else s.S[i.val]
      phase := .ready, permActive := true, round := 0 }

/-- R154. DIN bytes LEN..31 are ignored, whatever they hold: an ABSORB_FINAL has the same effect on two DINs that agree
on bytes 0..LEN-1. -/
def Obligations.AbsorbFinalIgnoresBytesPastLen : Prop :=
  ∀ (len : BitVec 5) (s : State) (din : Words 8),
    (∀ b : Fin 32, b.val < len.toNat → dinByte din b = dinByte s.din b) →
    outcomeRel (fun t u => u = { t with din := din }) (exec (.absorbFinal len) s)
      (exec (.absorbFinal len) { s with din := din })

/-- R155, R54. An accepted SQUEEZE copies word j of the rate to DOUTj, so that digest byte 4j+k is `S[j][8k+7:8k]`, and
sets PHASE to SQUEEZED; nothing else changes, and no permutation starts. -/
def Obligations.SqueezeResult : Prop :=
  ∀ s : State, busy s = false → s.err = 0 → s.phase = .ready →
    ∃ t, exec .squeeze s = .next t ∧ t = { s with dout := t.dout, phase := .squeezed } ∧
      (∀ j : Fin 8, t.dout[j.val] = s.S[j.val]) ∧
      ∀ (j : Fin 8) (k : Fin 4), (digestOfDout t.dout)[4 * j.val + k.val] = s.S[j.val].extractLsb' (8 * k.val) 8

/-- R151. The phase table, with its phase errors. -/
def Obligations.PhaseTable : Prop :=
  ∀ (i : Instr) (s : State), busy s = false → (i = .init ∨ s.err = 0) →
    match phaseAfter s.phase i with
    | some p => ∃ t, exec i s = .next t ∧ t.phase = p ∧ t.err = 0
    | none   => exec i s = .next { s with err := 1 }

/-- R150, R243. While BUSY = 1 every CMD write, INIT's and an illegal word's too, only records ERR_BUSY if no error is
recorded. -/
def Obligations.BusyRejectsEveryWord : Prop :=
  ∀ (w : Word) (s : State), busy s = true → acceptCmd w s = .next (recordErr 2 s)

/-- R211, R212. While locked and not busy, every legal command other than INIT is discarded with no effect at all, and an
illegal word leaves the first code in place. -/
def Obligations.LockDiscardsCommands : Prop :=
  ∀ s : State, busy s = false → s.err ≠ 0 →
    (∀ i : Instr, i ≠ .init → exec i s = .next s) ∧
    (∀ w : Word, w ≠ 0x1 → acceptCmd w s = .next s)

/-- R217. The lock is left, in any step of any agent, only by an accepted INIT or by reset; ERR is then 0, S and DOUT are
zeroed and PHASE is FRESH. An error that occurs while locked leaves the first code in place. -/
def Obligations.LockLeftOnlyByInitOrReset : Prop :=
  ∀ s t : State, step s = .next t → s.err ≠ 0 → t.err ≠ s.err →
    (acceptsInit s ∨ turnOf s = .resetLine) ∧ t.err = 0 ∧ t.S = Vector.replicate 16 0 ∧ t.dout = Vector.replicate 8 0 ∧
      t.phase = .fresh

/-- R24. PHASE changes only when a command is accepted and at reset. -/
def Obligations.PhaseChangesOnlyByCommandOrReset : Prop :=
  ∀ s t : State, step s = .next t → t.phase ≠ s.phase →
    (∃ i, mayAccept s i ∧ phaseAfter s.phase i = some t.phase) ∨ (turnOf s = .resetLine ∧ t.phase = .fresh)

/-- R161. SQUEEZED is terminal: ABSORB, ABSORB_FINAL and SQUEEZE are rejected there with ERR_INVALID_STATE, and only INIT
or reset leaves it. -/
def Obligations.SqueezedIsTerminal : Prop :=
  (∀ (i : Instr) (s : State), i ≠ .init → s.phase = .squeezed → busy s = false → s.err = 0 →
    exec i s = .next { s with err := 1 }) ∧
  (∀ s t : State, step s = .next t → s.phase = .squeezed → t.phase ≠ .squeezed →
    acceptsInit s ∨ turnOf s = .resetLine)

/-! ### Who writes what -/

/-- R36. Only an accepted SQUEEZE writes DOUT; only an accepted INIT and reset clear it. -/
def Obligations.DoutWrittenOnlyBySqueezeInitReset : Prop :=
  ∀ s t : State, step s = .next t → t.dout ≠ s.dout →
    (mayAccept s .squeeze ∧ s.phase = .ready ∧ t.dout = rate s.S) ∨
    ((acceptsInit s ∨ turnOf s = .resetLine) ∧ t.dout = Vector.replicate 8 0)

/-- R35, R188. DIN changes only by the host's write to a DIN register, which sets that one word, and by reset. -/
def Obligations.DinWrittenOnlyByHostAndReset : Prop :=
  ∀ s t : State, step s = .next t → t.din ≠ s.din →
    (∃ (j : Fin 8) (v : Word) (rest : List HostLine),
      turnOf s = .host ∧ s.host = .wr .w32 (BitVec.ofNat 8 (0x10 + 4 * j.val)) v :: rest ∧ t.din = s.din.set j.val v) ∨
    (turnOf s = .resetLine ∧ t.din = Vector.replicate 8 0)

/-- R27, R28, R109. RC and RC_READY change only by the GEN step, which is enabled only while RC_READY = 0, and by reset. -/
def Obligations.RcWrittenOnlyByGenAndReset : Prop :=
  ∀ s t : State, step s = .next t → (t.rc ≠ s.rc ∨ t.rcReady ≠ s.rcReady) →
    (turnOf s = .generator ∧ s.rcReady = false ∧ t.rcReady = true) ∨ (turnOf s = .resetLine ∧ t.rcReady = false)

/-- R131, R153 to R155. S changes only by an accepted INIT or absorb command, one its phase allows, a PERM_ROUND step, and
reset; while a permutation runs, by a PERM_ROUND step and reset alone. -/
def Obligations.PermutationStateWriters : Prop :=
  ∀ s t : State, step s = .next t → t.S ≠ s.S →
    (turnOf s = .permEngine ∧ s.permActive = true) ∨ turnOf s = .resetLine ∨
    (s.permActive = false ∧ ∃ i, i ≠ .squeeze ∧ mayAccept s i ∧ phaseAfter s.phase i ≠ none)

/-! ### Register access -/

/-- R180, R39, R56, R57. An access is admitted exactly when it is 32 bits wide, word aligned and below 0x058; any other is
refused with `BusError` and answers no data; an admitted write completes. -/
def Obligations.AdmissionIsExact : Prop :=
  ∀ (width : Width) (off : Offset) (v : Word) (s : State),
    (admitted width off → (∃ r, regRead width off s = some r) ∧ ∃ t, regWrite width off v s = .next t) ∧
    (¬ admitted width off → regRead width off s = none ∧ regWrite width off v s = .refused (.busError off) ∧
      (turnOf s = .host → ∀ rest, s.host = .rd width off :: rest ∨ s.host = .wr width off v :: rest →
        step s = .refused (.busError off)))

/-- R50, R10. BASE is a multiple of 256, the bus address of every offset is in the window and leads back to that offset,
so that an access at it is the register access at the offset, and every address outside the window's 256 bytes leads to
none. -/
def Obligations.WindowIsOnePage : Prop :=
  Config.base % 256 = 0 ∧
  (∀ off : Offset, busAddress off = Config.base + off.toNat ∧ windowOffset (busAddress off) = some off) ∧
  (∀ (width : Width) (off : Offset) (v : Word) (s : State),
    memRead width (Config.base + off.toNat) s = regRead width off s ∧
    memWrite width (Config.base + off.toNat) v s = regWrite width off v s) ∧
  (∀ addr : Nat, windowOffset addr = none ↔ addr < Config.base ∨ Config.base + 0xFF < addr)

/-- R181, R182, R186. ID, PARAM and CMD read as constants in every state. -/
def Obligations.ConstantRegistersRead : Prop :=
  ∀ s : State, regRead .w32 0x00 s = some 0x45414731 ∧ regRead .w32 0x04 s = some 0x1020202B ∧
    regRead .w32 0x0C s = some 0

/-- R183, R33. STATUS reads as its fields, all of one state. -/
def Obligations.StatusReadsItsFields : Prop :=
  ∀ s : State, regRead .w32 0x08 s = some (statusBits s)

/-- R188, R189. DINj and DOUTj read as their words. -/
def Obligations.BuffersReadBack : Prop :=
  ∀ (s : State) (j : Fin 8),
    regRead .w32 (BitVec.ofNat 8 (0x10 + 4 * j.val)) s = some s.din[j.val] ∧
    regRead .w32 (BitVec.ofNat 8 (0x30 + 4 * j.val)) s = some s.dout[j.val]

/-- R38, R190. RC_DATA reads the indexed constant when RC_READY = 1 and the index is below NUM_CONSTANTS, and 0 otherwise;
a write to it is ignored. -/
def Obligations.RcDataReads : Prop :=
  ∀ s : State,
    (∀ h : s.rcIndex.toNat < 688, s.rcReady = true → regRead .w32 0x54 s = some s.rc[s.rcIndex.toNat]) ∧
    (s.rcReady = false ∨ 688 ≤ s.rcIndex.toNat → regRead .w32 0x54 s = some 0) ∧
    (∀ v : Word, regWrite .w32 0x54 v s = .next s)

/-- R191. A write to RC_INDEX keeps bits 11:0 and changes nothing else; it then reads back zero-extended. -/
def Obligations.RcIndexWriteAndRead : Prop :=
  ∀ (s : State) (v : Word),
    ∃ t, regWrite .w32 0x50 v s = .next t ∧ t = { s with rcIndex := v.extractLsb' 0 12 } ∧
      regRead .w32 0x50 t = some (v &&& 0xFFF)

/-- R187. A write to DINj sets that word and nothing else, in every phase, while BUSY = 1 and while locked; it then reads
back, and the other DIN words read as before. -/
def Obligations.DinWriteAndRead : Prop :=
  ∀ (s : State) (j : Fin 8) (v : Word),
    ∃ t, regWrite .w32 (BitVec.ofNat 8 (0x10 + 4 * j.val)) v s = .next t ∧ t = { s with din := t.din } ∧
      ∀ k : Fin 8, regRead .w32 (BitVec.ofNat 8 (0x10 + 4 * k.val)) t = some (if k = j then v else s.din[k.val])

/-- R184. A write to a read-only register changes no state. -/
def Obligations.ReadOnlyWritesIgnored : Prop :=
  ∀ (s : State) (v : Word) (off : Offset), admitted .w32 off → ¬ writable off → regWrite .w32 off v s = .next s

/-- R192. No admitted read changes any state of the block, and of the writes only those to CMD, DIN and RC_INDEX do. -/
def Obligations.ReadsAndIgnoredWritesKeepTheBlock : Prop :=
  ∀ s t : State, step s = .next t → turnOf s = .host →
    (∀ width off v rest, s.host = .wr width off v :: rest → ¬ writable off) → sameBlock s t

/-! ### What cannot be observed -/

/-- R23, R223. No host access exposes the capacity: one access on two states that differ only in S[8..15] answers the
same word or outcome, and leaves states that differ only in S. -/
def Obligations.CapacityNeverExposed : Prop :=
  ∀ (s : State) (T : Words 16), (∀ j : Fin 8, T[j.val] = s.S[j.val]) →
    (∀ width off, regRead width off { s with S := T } = regRead width off s) ∧
    outcomeRel (fun t u => u = { t with S := u.S }) (hostTurn s) (hostTurn { s with S := T })

/-- R28 (and log entry 6: the value State.reset gives RC is the model's). Before GEN, RC cannot be observed: from two
states that differ only in RC, a step gives states that are equal or still differ only there, or the same stop. -/
def Obligations.RcUnobservableBeforeGen : Prop :=
  ∀ s t : State, BlockInv s → sameButUnreadyRc s t → outcomeRel sameButUnreadyRc (step s) (step t)

/-- R132, R248. No control element depends on data: whatever S, DIN, DOUT, RC and LEN are, a command word, a PERM_ROUND
turn and a GEN turn leave equal control elements in states that had equal ones. -/
def Obligations.ControlIndependentOfData : Prop :=
  ∀ s t : State, controlOf s = controlOf t →
    (∀ w, outcomeRel (fun a b => controlOf a = controlOf b) (acceptCmd w s) (acceptCmd w t)) ∧
    (∀ len len', outcomeRel (fun a b => controlOf a = controlOf b) (exec (.absorbFinal len) s)
      (exec (.absorbFinal len') t)) ∧
    outcomeRel (fun a b => controlOf a = controlOf b) (permTurn s) (permTurn t) ∧
    outcomeRel (fun a b => controlOf a = controlOf b) (genTurn s) (genTurn t)

/-! ### The permutation -/

/-- R129, R128, R122. The PERM_ROUND step: enabled while PERM_ACTIVE = 1, it applies the four layers BitMat, Circ, Inject
and ARX in this order with the round's slice, and counts the round, and the last one ends the permutation; a round index
out of range is the model fault. A turn of the engine while PERM_ACTIVE = 0 changes nothing but the turns (the model's
choice, log entry 2). -/
def Obligations.PermRoundStep : Prop :=
  ∀ (s : State) (ts : List Agent), s.turns = .permEngine :: ts →
    (∀ h : s.round.toNat < 43, s.permActive = true →
      step s = .next { s with
        turns := ts
        S := arx (inject s.rc ⟨s.round.toNat, h⟩ (circ Config.coef (bitMat Config.bitMatrix s.S)))
        permActive := decide (s.round.toNat + 1 ≠ 43)
        round := if s.round.toNat + 1 = 43 then 0 else s.round + 1 }) ∧
    (43 ≤ s.round.toNat → s.permActive = true → step s = .fault .assertRoundIndex) ∧
    (s.permActive = false → step s = .next { s with turns := ts })

/-- R131. A permutation started with state S ends after exactly 43 PERM_ROUND steps with Perm(S), and after n steps before
that S holds the state after n rounds and ROUND is n. -/
def Obligations.PermutationEndsAfterAllRounds : Prop :=
  ∀ (s : State) (ts : List Agent), s.permActive = true → s.round = 0 →
    s.turns = List.replicate 43 .permEngine ++ ts →
    (∀ n, n < 43 → core.run n s = .next { s with
      turns := List.replicate (43 - n) .permEngine ++ ts
      S := roundsFn Config.bitMatrix Config.coef s.rc n s.S
      round := BitVec.ofNat 8 n }) ∧
    core.run 43 s = .next { s with
      turns := ts, S := perm Config.bitMatrix Config.coef s.rc s.S, permActive := false, round := 0 }

/-- R123. BitMat: bit b of word j is the parity of bit b of the words k with `BIT_MATRIX[16k+j] = 1`, so it is linear; a
single word e reaches exactly the words its row names. -/
def Obligations.BitMatIsLinear : Prop :=
  ∀ m : BitVec 256,
    (∀ (S : Words 16) (j : Fin 16) (b : Nat),
      (bitMat m S)[j.val].getLsbD b =
        decide (((List.finRange 16).countP fun k => m.getLsbD (16 * k.val + j.val) && S[k.val].getLsbD b) % 2 = 1)) ∧
    bitMat m (Vector.replicate 16 0) = Vector.replicate 16 0 ∧
    (∀ S T : Words 16, bitMat m (xorWords S T) = xorWords (bitMat m S) (bitMat m T)) ∧
    (∀ (k j : Fin 16) (e : Word),
      (bitMat m (Vector.ofFn fun i => if i = k then e else 0))[j.val] = if m.getLsbD (16 * k.val + j.val) then e else 0)

/-- R124. Circ: each word is the XOR of three rotations of itself; an amount of 0 gives the word itself, two equal amounts
cancel, 0 gives 0 and all ones give all ones. -/
def Obligations.CircRotatesEachWord : Prop :=
  ∀ coef : Vector (BitVec 5) 48,
    (∀ (S : Words 16) (i : Fin 16), (circ coef S)[i.val] =
      rotlBits S[i.val] (coef.toList.getD (3 * i.val) 0).toNat ^^^
      rotlBits S[i.val] (coef.toList.getD (3 * i.val + 1) 0).toNat ^^^
      rotlBits S[i.val] (coef.toList.getD (3 * i.val + 2) 0).toNat) ∧
    circ coef (Vector.replicate 16 0) = Vector.replicate 16 0 ∧
    (∀ (S : Words 16) (i : Fin 16), S[i.val] = 0xFFFFFFFF → (circ coef S)[i.val] = 0xFFFFFFFF) ∧
    (∀ (x : Word) (a d : BitVec 5), circWord x a a d = rotlBits x d.toNat) ∧
    (∀ x : Word, circWord x 0 0 0 = x)

/-- R125, R110. Inject XORs constant 16r+i into word i. -/
def Obligations.InjectAddsTheSlice : Prop :=
  ∀ (rc : Words 688) (r : Fin 43) (S : Words 16) (i : Fin 16),
    (inject rc r S)[i.val] = S[i.val] ^^^ rc.toList.getD (16 * r.val + i.val) 0

/-- R126. ARX on each pair, the second word from the new first word. -/
def Obligations.ArxOnPairs : Prop :=
  ∀ (S : Words 16) (i : Fin 8),
    (arx S)[2 * i.val] = rotlBits (S[2 * i.val] + S[2 * i.val + 1]) 8 ∧
    (arx S)[2 * i.val + 1] = rotlBits S[2 * i.val + 1] 24 + (arx S)[2 * i.val]

/-- R133. ARX and Inject are invertible; nothing is said of BitMat and Circ. -/
def Obligations.ArxAndInjectInvertible : Prop :=
  Function.Bijective arx ∧ ∀ (rc : Words 688) (r : Fin 43), Function.Bijective (inject rc r)

/-- 95_test_vectors.md L2 (from R122 to R126). A round of the zero state is ARX of the round's slice, whatever BIT_MATRIX
and COEF are. -/
def Obligations.RoundOfZeroNeedsNoOpenParameter : Prop :=
  ∀ (m : BitVec 256) (coef : Vector (BitVec 5) 48) (rc : Words 688) (r : Fin 43),
    roundFn m coef rc r (Vector.replicate 16 0) = arx (Vector.ofFn fun i => rc.toList.getD (16 * r.val + i.val) 0)

/-! ### The generator -/

/-- R108. The GEN step: enabled while RC_READY = 0, it fills RC with `generate_constants(SEED, NUM_ROUNDS)` and sets
RC_READY, and nothing else. `generateConstants` rests on the model's definition of SHAKE256 (PRESUMED, log entry 8). A turn
of the generator while RC_READY = 1 changes nothing but the turns (the model's choice, log entry 2). -/
def Obligations.GenStepFillsTheTable : Prop :=
  ∀ (s : State) (ts : List Agent), s.turns = .generator :: ts →
    (s.rcReady = false → ∃ t, step s = .next t ∧ t = { s with turns := ts, rc := t.rc, rcReady := true } ∧
      generateConstants Config.seed 43 = some t.rc.toList) ∧
    (s.rcReady = true → step s = .next { s with turns := ts })

/-- R101, R105. `generate_constants` answers exactly 16 × num_rounds words. -/
def Obligations.ConstantCount : Prop :=
  ∀ (seed : List Byte) (n : Nat) (l : List Word), generateConstants seed n = some l → l.length = 16 * n

/-- R8. A configuration is refused exactly when NUM_ROUNDS is not in 1..255 or SEED is empty; this hardware's is not. -/
def Obligations.ConfigurationCheck : Prop :=
  (∀ (seed : List Byte) (n : Nat), generateConstants seed n = none ↔ n < 1 ∨ 255 < n ∨ seed = []) ∧
  generateConstants Config.seed Config.numRounds ≠ none

/-! ### Reset -/

/-- R240. A reset in any state, whoever's step was to come, gives every element its reset value, abandons a running
permutation and leaves RC unreadable at every index. -/
def Obligations.ResetEvent : Prop :=
  ∀ (s : State) (ts : List Agent), s.turns = .resetLine :: ts →
    ∃ t, step s = .next t ∧
      t.S = Vector.replicate 16 0 ∧ t.phase = .fresh ∧ t.err = 0 ∧ t.permActive = false ∧ t.round = 0 ∧
      t.rcReady = false ∧ t.din = Vector.replicate 8 0 ∧ t.dout = Vector.replicate 8 0 ∧ t.rcIndex = 0 ∧
      (∀ v : BitVec 12, regRead .w32 0x54 { t with rcIndex := v } = some 0)

/-- R241, R33. After reset STATUS reads 0x1 and no PERM_ROUND step is enabled, which the model says as a turn of the engine
that changes nothing (the model's choice, log entry 2); the GEN step makes it read 0x2 in FRESH;
that state is, RC apart, the state an accepted INIT leaves, except that INIT keeps DIN and RC_INDEX. -/
def Obligations.AfterReset : Prop :=
  regRead .w32 0x08 State.reset = some 0x1 ∧ permTurn State.reset = .next State.reset ∧
  ∃ t, genTurn State.reset = .next t ∧ regRead .w32 0x08 t = some 0x2 ∧ t.phase = .fresh ∧
    ∀ s u : State, busy s = false → s.round = 0 → exec .init s = .next u →
      { u with rc := t.rc, din := t.din, rcIndex := t.rcIndex, host := t.host, turns := t.turns, reads := t.reads } = t

/-! ### Invariants and safety -/

/-- The invariant (R25, R33, R36, R109, R128, R189, R210) holds right after reset. -/
def Obligations.InvAtReset : Prop := BlockInv State.reset

/-- The invariant (R25, R33, R36, R109, R128, R189, R210) is kept by every step of every agent. -/
def Obligations.StepKeepsInv : Prop :=
  ∀ s t : State, BlockInv s → step s = .next t → BlockInv t

/-- R128, R213. Under the invariant no step meets the round-index fault. -/
def Obligations.InvExcludesTheFault : Prop :=
  ∀ s : State, BlockInv s → Safe s

/-! ### Progress and races -/

/-- R249 (in the model's default order, log entry 3). A busy block with no turns named is not busy after at most 43 steps,
and the host's accesses have not moved. -/
def Obligations.BusyEnds : Prop :=
  ∀ s : State, BlockInv s → s.turns = [] →
    ∃ n t, n ≤ 43 ∧ core.run n s = .next t ∧ busy t = false ∧ t.host = s.host ∧ t.phase = s.phase ∧ t.err = s.err

/-- R247, R215. A SQUEEZE written beside the last PERM_ROUND step of an ABSORB_FINAL: after it the command is accepted,
before it the command is rejected with ERR_BUSY, and in both orders the permutation is then complete. -/
def Obligations.RaceHasBothOutcomes : Prop :=
  ∀ (s : State) (rest : List HostLine) (ts : List Agent),
    s.permActive = true → s.round = 42 → s.rcReady = true → s.err = 0 → s.phase = .ready →
    s.host = .wr .w32 0x0C 0x4 :: rest →
    (∃ t, core.run 2 { s with turns := .permEngine :: .host :: ts } = .next t ∧
      t.phase = .squeezed ∧ t.err = 0 ∧ t.permActive = false ∧ t.dout = rate (blockRound s.rc 42 s.S)) ∧
    (∃ t, core.run 2 { s with turns := .host :: .permEngine :: ts } = .next t ∧
      t.phase = .ready ∧ t.err = 2 ∧ t.permActive = false ∧ t.dout = s.dout ∧ t.S = blockRound s.rc 42 s.S)

/-! ### The hash -/

/-- R156, R157. Pad(M) is M, the delimiter 0x06 and fewer than 32 zeros, and its length is 32 × (floor(n / 32) + 1). -/
def Obligations.PaddingFillsTheLastBlock : Prop :=
  ∀ M : List Byte,
    (∃ z, z < 32 ∧ pad M = M ++ [0x06] ++ List.replicate z 0x00) ∧
    (pad M).length = 32 * (M.length / 32 + 1) ∧ (M.length + 1 + 31) / 32 = M.length / 32 + 1

/-- R158. The blocks the host's loads and the commands form are those of Pad(M): a full block is 32 message bytes as
LOADBLK packs them, and the last is LEN message bytes as LOADFINAL packs them, padded by ABSORB_FINAL. LOADFINAL's
packing is the model's: one byte of the host's choice, whichever it is, in every lane of its last word past the message
(log entry 14, DESIGN CHOICE). The DIN words LOADFINAL does not load may hold anything. -/
def Obligations.CommandBlocksArePaddedBlocks : Prop :=
  ∀ (M : List Byte) (din : Words 8),
    (∀ i, i < M.length / 32 →
      (∀ j : Fin 8, din[j.val] = dinWordOf ((M.drop (32 * i)).take 32) 0x00 j.val) →
      dinBlock din = blockOf (pad M) i) ∧
    (∀ fill : Byte,
      (∀ j : Fin 8, 4 * j.val < M.length % 32 →
        din[j.val] = dinWordOf (M.drop (32 * (M.length / 32))) fill j.val) →
      finalBlock din (BitVec.ofNat 5 (M.length % 32)) = blockOf (pad M) (M.length / 32))

/-- R160. The empty message: ABSORB_FINAL 0 after INIT starts the one permutation from [0x06000000, 0, …, 0]. -/
def Obligations.EmptyMessageBlock : Prop :=
  ∀ s : State, busy s = false →
    ∃ t u, exec .init s = .next t ∧ exec (.absorbFinal 0) t = .next u ∧
      u.S = (Vector.replicate 16 0).set 0 0x06000000 ∧ u.phase = .ready ∧ u.permActive = true ∧ u.round = 0

/-- R159, R158, R89, in the model's default order (log entry 3), with one byte of the host's choice in every lane LOADFINAL
does not need (log entry 14) and with no record of the words a POLL reads (log entry 13). From every state that meets
the invariant, whatever phase, lock or running permutation it is in, the host's HASH M ends in SQUEEZED without an error,
DOUT holds `EaglesongHash(M)`, and the words read are DOUT0..DOUT7. -/
def Obligations.HashOfEveryMessage : Prop :=
  ∀ (M : List Byte) (fill : Byte) (s : State) (rest : List HostLine),
    BlockInv s → s.turns = [] → s.host = hashLines fill M ++ rest →
    ∃ n t, core.run n s = .next t ∧ t.phase = .squeezed ∧ t.err = 0 ∧ t.host = rest ∧ t.turns = [] ∧
      digestOfDout t.dout = eaglesongHash (blockPerm rcTable) M ∧ t.reads = t.dout.toList.reverse ++ s.reads
end

