-- ==== Sys2Proof/Laws/State.lean ====
section
/-! SUPPORT. What each named update of the state does to each of its fields, so that no later proof unfolds a record
update. -/

namespace Sys2Proof.Machine

variable (s : State)

@[simp] theorem writeDin_S (j : Fin 8) (v : Word) : (writeDin j v s).S = s.S := rfl
@[simp] theorem writeDin_phase (j : Fin 8) (v : Word) : (writeDin j v s).phase = s.phase := rfl
@[simp] theorem writeDin_err (j : Fin 8) (v : Word) : (writeDin j v s).err = s.err := rfl
@[simp] theorem writeDin_permActive (j : Fin 8) (v : Word) : (writeDin j v s).permActive = s.permActive := rfl
@[simp] theorem writeDin_round (j : Fin 8) (v : Word) : (writeDin j v s).round = s.round := rfl
@[simp] theorem writeDin_rcReady (j : Fin 8) (v : Word) : (writeDin j v s).rcReady = s.rcReady := rfl
@[simp] theorem writeDin_rc (j : Fin 8) (v : Word) : (writeDin j v s).rc = s.rc := rfl
@[simp] theorem writeDin_din (j : Fin 8) (v : Word) : (writeDin j v s).din = s.din.set j.val v := rfl
@[simp] theorem writeDin_dout (j : Fin 8) (v : Word) : (writeDin j v s).dout = s.dout := rfl
@[simp] theorem writeDin_rcIndex (j : Fin 8) (v : Word) : (writeDin j v s).rcIndex = s.rcIndex := rfl
@[simp] theorem writeDin_host (j : Fin 8) (v : Word) : (writeDin j v s).host = s.host := rfl
@[simp] theorem writeDin_turns (j : Fin 8) (v : Word) : (writeDin j v s).turns = s.turns := rfl
@[simp] theorem writeDin_reads (j : Fin 8) (v : Word) : (writeDin j v s).reads = s.reads := rfl

@[simp] theorem writeRcIndex_S (v : Word) : (writeRcIndex v s).S = s.S := rfl
@[simp] theorem writeRcIndex_phase (v : Word) : (writeRcIndex v s).phase = s.phase := rfl
@[simp] theorem writeRcIndex_err (v : Word) : (writeRcIndex v s).err = s.err := rfl
@[simp] theorem writeRcIndex_permActive (v : Word) : (writeRcIndex v s).permActive = s.permActive := rfl
@[simp] theorem writeRcIndex_round (v : Word) : (writeRcIndex v s).round = s.round := rfl
@[simp] theorem writeRcIndex_rcReady (v : Word) : (writeRcIndex v s).rcReady = s.rcReady := rfl
@[simp] theorem writeRcIndex_rc (v : Word) : (writeRcIndex v s).rc = s.rc := rfl
@[simp] theorem writeRcIndex_din (v : Word) : (writeRcIndex v s).din = s.din := rfl
@[simp] theorem writeRcIndex_dout (v : Word) : (writeRcIndex v s).dout = s.dout := rfl
@[simp] theorem writeRcIndex_rcIndex (v : Word) : (writeRcIndex v s).rcIndex = v.extractLsb' 0 12 := rfl
@[simp] theorem writeRcIndex_host (v : Word) : (writeRcIndex v s).host = s.host := rfl
@[simp] theorem writeRcIndex_turns (v : Word) : (writeRcIndex v s).turns = s.turns := rfl
@[simp] theorem writeRcIndex_reads (v : Word) : (writeRcIndex v s).reads = s.reads := rfl

@[simp] theorem releaseLock_S : (releaseLock s).S = s.S := rfl
@[simp] theorem releaseLock_phase : (releaseLock s).phase = s.phase := rfl
@[simp] theorem releaseLock_err : (releaseLock s).err = errNone := rfl
@[simp] theorem releaseLock_permActive : (releaseLock s).permActive = s.permActive := rfl
@[simp] theorem releaseLock_round : (releaseLock s).round = s.round := rfl
@[simp] theorem releaseLock_rcReady : (releaseLock s).rcReady = s.rcReady := rfl
@[simp] theorem releaseLock_rc : (releaseLock s).rc = s.rc := rfl
@[simp] theorem releaseLock_din : (releaseLock s).din = s.din := rfl
@[simp] theorem releaseLock_dout : (releaseLock s).dout = s.dout := rfl
@[simp] theorem releaseLock_rcIndex : (releaseLock s).rcIndex = s.rcIndex := rfl
@[simp] theorem releaseLock_host : (releaseLock s).host = s.host := rfl
@[simp] theorem releaseLock_turns : (releaseLock s).turns = s.turns := rfl
@[simp] theorem releaseLock_reads : (releaseLock s).reads = s.reads := rfl

@[simp] theorem startPerm_S : (startPerm s).S = s.S := rfl
@[simp] theorem startPerm_phase : (startPerm s).phase = s.phase := rfl
@[simp] theorem startPerm_err : (startPerm s).err = s.err := rfl
@[simp] theorem startPerm_permActive : (startPerm s).permActive = true := rfl
@[simp] theorem startPerm_round : (startPerm s).round = 0 := rfl
@[simp] theorem startPerm_rcReady : (startPerm s).rcReady = s.rcReady := rfl
@[simp] theorem startPerm_rc : (startPerm s).rc = s.rc := rfl
@[simp] theorem startPerm_din : (startPerm s).din = s.din := rfl
@[simp] theorem startPerm_dout : (startPerm s).dout = s.dout := rfl
@[simp] theorem startPerm_rcIndex : (startPerm s).rcIndex = s.rcIndex := rfl
@[simp] theorem startPerm_host : (startPerm s).host = s.host := rfl
@[simp] theorem startPerm_turns : (startPerm s).turns = s.turns := rfl
@[simp] theorem startPerm_reads : (startPerm s).reads = s.reads := rfl

@[simp] theorem absorbBlock_S (B : Block) (p : Phase) : (absorbBlock B p s).S = xorRate s.S B := rfl
@[simp] theorem absorbBlock_phase (B : Block) (p : Phase) : (absorbBlock B p s).phase = p := rfl
@[simp] theorem absorbBlock_err (B : Block) (p : Phase) : (absorbBlock B p s).err = s.err := rfl
@[simp] theorem absorbBlock_permActive (B : Block) (p : Phase) : (absorbBlock B p s).permActive = true := rfl
@[simp] theorem absorbBlock_round (B : Block) (p : Phase) : (absorbBlock B p s).round = 0 := rfl
@[simp] theorem absorbBlock_rcReady (B : Block) (p : Phase) : (absorbBlock B p s).rcReady = s.rcReady := rfl
@[simp] theorem absorbBlock_rc (B : Block) (p : Phase) : (absorbBlock B p s).rc = s.rc := rfl
@[simp] theorem absorbBlock_din (B : Block) (p : Phase) : (absorbBlock B p s).din = s.din := rfl
@[simp] theorem absorbBlock_dout (B : Block) (p : Phase) : (absorbBlock B p s).dout = s.dout := rfl
@[simp] theorem absorbBlock_rcIndex (B : Block) (p : Phase) : (absorbBlock B p s).rcIndex = s.rcIndex := rfl
@[simp] theorem absorbBlock_host (B : Block) (p : Phase) : (absorbBlock B p s).host = s.host := rfl
@[simp] theorem absorbBlock_turns (B : Block) (p : Phase) : (absorbBlock B p s).turns = s.turns := rfl
@[simp] theorem absorbBlock_reads (B : Block) (p : Phase) : (absorbBlock B p s).reads = s.reads := rfl

@[simp] theorem genStep_S : (genStep s).S = s.S := rfl
@[simp] theorem genStep_phase : (genStep s).phase = s.phase := rfl
@[simp] theorem genStep_err : (genStep s).err = s.err := rfl
@[simp] theorem genStep_permActive : (genStep s).permActive = s.permActive := rfl
@[simp] theorem genStep_round : (genStep s).round = s.round := rfl
@[simp] theorem genStep_rcReady : (genStep s).rcReady = true := rfl
@[simp] theorem genStep_rc : (genStep s).rc = rcTable := rfl
@[simp] theorem genStep_din : (genStep s).din = s.din := rfl
@[simp] theorem genStep_dout : (genStep s).dout = s.dout := rfl
@[simp] theorem genStep_rcIndex : (genStep s).rcIndex = s.rcIndex := rfl
@[simp] theorem genStep_host : (genStep s).host = s.host := rfl
@[simp] theorem genStep_turns : (genStep s).turns = s.turns := rfl
@[simp] theorem genStep_reads : (genStep s).reads = s.reads := rfl

@[simp] theorem doInit_S : (doInit s).S = Vector.replicate 16 0 := rfl
@[simp] theorem doInit_phase : (doInit s).phase = .fresh := rfl
@[simp] theorem doInit_err : (doInit s).err = errNone := rfl
@[simp] theorem doInit_permActive : (doInit s).permActive = s.permActive := rfl
@[simp] theorem doInit_round : (doInit s).round = s.round := rfl
@[simp] theorem doInit_rcReady : (doInit s).rcReady = s.rcReady := rfl
@[simp] theorem doInit_rc : (doInit s).rc = s.rc := rfl
@[simp] theorem doInit_din : (doInit s).din = s.din := rfl
@[simp] theorem doInit_dout : (doInit s).dout = Vector.replicate 8 0 := rfl
@[simp] theorem doInit_rcIndex : (doInit s).rcIndex = s.rcIndex := rfl
@[simp] theorem doInit_host : (doInit s).host = s.host := rfl
@[simp] theorem doInit_turns : (doInit s).turns = s.turns := rfl
@[simp] theorem doInit_reads : (doInit s).reads = s.reads := rfl

@[simp] theorem doAbsorb_S : (doAbsorb s).S = xorRate s.S (dinBlock s.din) := rfl
@[simp] theorem doAbsorb_phase : (doAbsorb s).phase = .absorbing := rfl
@[simp] theorem doAbsorb_err : (doAbsorb s).err = s.err := rfl
@[simp] theorem doAbsorb_permActive : (doAbsorb s).permActive = true := rfl
@[simp] theorem doAbsorb_round : (doAbsorb s).round = 0 := rfl
@[simp] theorem doAbsorb_rcReady : (doAbsorb s).rcReady = s.rcReady := rfl
@[simp] theorem doAbsorb_rc : (doAbsorb s).rc = s.rc := rfl
@[simp] theorem doAbsorb_din : (doAbsorb s).din = s.din := rfl
@[simp] theorem doAbsorb_dout : (doAbsorb s).dout = s.dout := rfl
@[simp] theorem doAbsorb_rcIndex : (doAbsorb s).rcIndex = s.rcIndex := rfl
@[simp] theorem doAbsorb_host : (doAbsorb s).host = s.host := rfl
@[simp] theorem doAbsorb_turns : (doAbsorb s).turns = s.turns := rfl
@[simp] theorem doAbsorb_reads : (doAbsorb s).reads = s.reads := rfl

@[simp] theorem doAbsorbFinal_S (len : BitVec 5) : (doAbsorbFinal len s).S = xorRate s.S (finalBlock s.din len) := rfl
@[simp] theorem doAbsorbFinal_phase (len : BitVec 5) : (doAbsorbFinal len s).phase = .ready := rfl
@[simp] theorem doAbsorbFinal_err (len : BitVec 5) : (doAbsorbFinal len s).err = s.err := rfl
@[simp] theorem doAbsorbFinal_permActive (len : BitVec 5) : (doAbsorbFinal len s).permActive = true := rfl
@[simp] theorem doAbsorbFinal_round (len : BitVec 5) : (doAbsorbFinal len s).round = 0 := rfl
@[simp] theorem doAbsorbFinal_rcReady (len : BitVec 5) : (doAbsorbFinal len s).rcReady = s.rcReady := rfl
@[simp] theorem doAbsorbFinal_rc (len : BitVec 5) : (doAbsorbFinal len s).rc = s.rc := rfl
@[simp] theorem doAbsorbFinal_din (len : BitVec 5) : (doAbsorbFinal len s).din = s.din := rfl
@[simp] theorem doAbsorbFinal_dout (len : BitVec 5) : (doAbsorbFinal len s).dout = s.dout := rfl
@[simp] theorem doAbsorbFinal_rcIndex (len : BitVec 5) : (doAbsorbFinal len s).rcIndex = s.rcIndex := rfl
@[simp] theorem doAbsorbFinal_host (len : BitVec 5) : (doAbsorbFinal len s).host = s.host := rfl
@[simp] theorem doAbsorbFinal_turns (len : BitVec 5) : (doAbsorbFinal len s).turns = s.turns := rfl
@[simp] theorem doAbsorbFinal_reads (len : BitVec 5) : (doAbsorbFinal len s).reads = s.reads := rfl

@[simp] theorem doSqueeze_S : (doSqueeze s).S = s.S := rfl
@[simp] theorem doSqueeze_phase : (doSqueeze s).phase = .squeezed := rfl
@[simp] theorem doSqueeze_err : (doSqueeze s).err = s.err := rfl
@[simp] theorem doSqueeze_permActive : (doSqueeze s).permActive = s.permActive := rfl
@[simp] theorem doSqueeze_round : (doSqueeze s).round = s.round := rfl
@[simp] theorem doSqueeze_rcReady : (doSqueeze s).rcReady = s.rcReady := rfl
@[simp] theorem doSqueeze_rc : (doSqueeze s).rc = s.rc := rfl
@[simp] theorem doSqueeze_din : (doSqueeze s).din = s.din := rfl
@[simp] theorem doSqueeze_dout : (doSqueeze s).dout = rate s.S := rfl
@[simp] theorem doSqueeze_rcIndex : (doSqueeze s).rcIndex = s.rcIndex := rfl
@[simp] theorem doSqueeze_host : (doSqueeze s).host = s.host := rfl
@[simp] theorem doSqueeze_turns : (doSqueeze s).turns = s.turns := rfl
@[simp] theorem doSqueeze_reads : (doSqueeze s).reads = s.reads := rfl

@[simp] theorem resetBlock_S : (resetBlock s).S = Vector.replicate 16 0 := rfl
@[simp] theorem resetBlock_phase : (resetBlock s).phase = .fresh := rfl
@[simp] theorem resetBlock_err : (resetBlock s).err = 0 := rfl
@[simp] theorem resetBlock_permActive : (resetBlock s).permActive = false := rfl
@[simp] theorem resetBlock_round : (resetBlock s).round = 0 := rfl
@[simp] theorem resetBlock_rcReady : (resetBlock s).rcReady = false := rfl
@[simp] theorem resetBlock_rc : (resetBlock s).rc = Vector.replicate 688 0 := rfl
@[simp] theorem resetBlock_din : (resetBlock s).din = Vector.replicate 8 0 := rfl
@[simp] theorem resetBlock_dout : (resetBlock s).dout = Vector.replicate 8 0 := rfl
@[simp] theorem resetBlock_rcIndex : (resetBlock s).rcIndex = 0 := rfl
@[simp] theorem resetBlock_host : (resetBlock s).host = s.host := rfl
@[simp] theorem resetBlock_turns : (resetBlock s).turns = s.turns := rfl
@[simp] theorem resetBlock_reads : (resetBlock s).reads = s.reads := rfl

/-- What `reject` does (R211): ERR takes the code if it held none, and nothing else changes. -/
theorem reject_eq (code : BitVec 4) :
    reject code s = { s with err := if s.err = errNone then code else s.err } := by
  unfold reject; split <;> rfl

@[simp] theorem reject_S (code : BitVec 4) : (reject code s).S = s.S := by rw [reject_eq]
@[simp] theorem reject_phase (code : BitVec 4) : (reject code s).phase = s.phase := by rw [reject_eq]
@[simp] theorem reject_err (code : BitVec 4) :
    (reject code s).err = if s.err = errNone then code else s.err := by rw [reject_eq]
@[simp] theorem reject_permActive (code : BitVec 4) : (reject code s).permActive = s.permActive := by rw [reject_eq]
@[simp] theorem reject_round (code : BitVec 4) : (reject code s).round = s.round := by rw [reject_eq]
@[simp] theorem reject_rcReady (code : BitVec 4) : (reject code s).rcReady = s.rcReady := by rw [reject_eq]
@[simp] theorem reject_rc (code : BitVec 4) : (reject code s).rc = s.rc := by rw [reject_eq]
@[simp] theorem reject_din (code : BitVec 4) : (reject code s).din = s.din := by rw [reject_eq]
@[simp] theorem reject_dout (code : BitVec 4) : (reject code s).dout = s.dout := by rw [reject_eq]
@[simp] theorem reject_rcIndex (code : BitVec 4) : (reject code s).rcIndex = s.rcIndex := by rw [reject_eq]
@[simp] theorem reject_host (code : BitVec 4) : (reject code s).host = s.host := by rw [reject_eq]
@[simp] theorem reject_turns (code : BitVec 4) : (reject code s).turns = s.turns := by rw [reject_eq]
@[simp] theorem reject_reads (code : BitVec 4) : (reject code s).reads = s.reads := by rw [reject_eq]

/-- BUSY reads PERM_ACTIVE and RC_READY alone (R26). -/
theorem busy_congr {s t : State} (ha : t.permActive = s.permActive) (hr : t.rcReady = s.rcReady) : busy t = busy s := by
  unfold busy; rw [ha, hr]

@[simp] theorem busy_reject (code : BitVec 4) : busy (reject code s) = busy s :=
  busy_congr (reject_permActive s code) (reject_rcReady s code)

/-- BUSY = 0 means that no permutation runs and the table is ready (R26). -/
theorem busy_eq_false {s : State} : busy s = false ↔ s.permActive = false ∧ s.rcReady = true := by
  unfold busy; cases s.permActive <;> cases s.rcReady <;> simp

/-- The lock is ERR ≠ 0 (R212). -/
theorem locked_eq_true {s : State} : locked s = true ↔ s.err ≠ 0 :=
  decide_eq_true_iff

theorem locked_eq_false {s : State} : locked s = false ↔ s.err = 0 :=
  decide_eq_false_iff_not.trans Decidable.not_not

end Sys2Proof.Machine
end

