-- ==== Sys2Proof/Laws/Ops.lean ====
section
/-! SUPPORT. One lemma for each shared operation, saying once everything it can do. -/

namespace Sys2Proof.Machine

/-- Acceptance of a legal command other than INIT (R150): busy, locked, out of phase, or its effect. -/
theorem accept_cases (allowed : Phase → Bool) (effect : State → State) (s : State) :
    (busy s = true ∧ accept allowed effect s = .next (reject errBusy s)) ∨
    (busy s = false ∧ s.err ≠ 0 ∧ accept allowed effect s = .next s) ∨
    (busy s = false ∧ s.err = 0 ∧ allowed s.phase = false ∧
      accept allowed effect s = .next (reject errInvalidState s)) ∨
    (busy s = false ∧ s.err = 0 ∧ allowed s.phase = true ∧ accept allowed effect s = .next (effect s)) := by
  unfold accept
  cases hb : busy s with
  | true => exact .inl ⟨rfl, by simp⟩
  | false =>
    cases hl : locked s with
    | true => exact .inr (.inl ⟨rfl, locked_eq_true.mp hl, by simp⟩)
    | false =>
      have he := locked_eq_false.mp hl
      cases ha : allowed s.phase with
      | false => exact .inr (.inr (.inl ⟨rfl, he, rfl, by simp⟩))
      | true => exact .inr (.inr (.inr ⟨rfl, he, rfl, by simp⟩))

/-- Acceptance of INIT (R150): busy, or its effect. -/
theorem acceptInit_cases (effect : State → State) (s : State) :
    (busy s = true ∧ acceptInit effect s = .next (reject errBusy s)) ∨
    (busy s = false ∧ acceptInit effect s = .next (effect s)) := by
  unfold acceptInit
  cases busy s <;> simp

/-- What an illegal word does (R150): it records ERR_BUSY or ERR_ILLEGAL_CMD. -/
theorem rejectIllegal_cases (s : State) :
    (busy s = true ∧ rejectIllegal s = reject errBusy s) ∨
    (busy s = false ∧ rejectIllegal s = reject errIllegalCmd s) := by
  unfold rejectIllegal
  cases busy s <;> simp

/-- Where a block is written (R153, R154): word j of the rate takes `PackBE(B, j)`. -/
theorem xorRate_rate (S : Words 16) (B : Block) (j : Nat) (h : j < 8) :
    (xorRate S B)[j] = S[j] ^^^ packBE B ⟨j, h⟩ := by
  simp [xorRate, h]

/-- The capacity is not touched (R153, R154). -/
theorem xorRate_capacity (S : Words 16) (B : Block) (j : Nat) (h : 8 ≤ j) (hj : j < 16) :
    (xorRate S B)[j] = S[j] := by
  simp [xorRate, Nat.not_lt.mpr h]

/-- Word j of the rate (R23). -/
theorem rate_getElem (S : Words 16) (j : Nat) (h : j < 8) : (rate S)[j] = S[j] := by
  simp [rate]

/-- What a command can do: it is rejected or discarded, or it has its effect (R150). -/
theorem exec_cases (i : Instr) (s : State) :
    (busy s = true ∧ exec i s = .next (reject errBusy s)) ∨
    (busy s = false ∧ s.err ≠ 0 ∧ i ≠ .init ∧ exec i s = .next s) ∨
    (busy s = false ∧ s.err = 0 ∧ i ≠ .init ∧ exec i s = .next (reject errInvalidState s)) ∨
    (busy s = false ∧ i = .init ∧ exec i s = .next (doInit s)) ∨
    (busy s = false ∧ s.err = 0 ∧ mayAbsorb s.phase = true ∧ i = .absorb ∧ exec i s = .next (doAbsorb s)) ∨
    (busy s = false ∧ s.err = 0 ∧ mayAbsorb s.phase = true ∧
      ∃ len, i = .absorbFinal len ∧ exec i s = .next (doAbsorbFinal len s)) ∨
    (busy s = false ∧ s.err = 0 ∧ s.phase = .ready ∧ i = .squeeze ∧ exec i s = .next (doSqueeze s)) := by
  cases i with
  | init =>
    rcases acceptInit_cases doInit s with ⟨hb, h⟩ | ⟨hb, h⟩
    · exact .inl ⟨hb, h⟩
    · exact .inr (.inr (.inr (.inl ⟨hb, rfl, h⟩)))
  | absorb =>
    rcases accept_cases mayAbsorb doAbsorb s with ⟨hb, h⟩ | ⟨hb, he, h⟩ | ⟨hb, he, -, h⟩ | ⟨hb, he, ha, h⟩
    · exact .inl ⟨hb, h⟩
    · exact .inr (.inl ⟨hb, he, nofun, h⟩)
    · exact .inr (.inr (.inl ⟨hb, he, nofun, h⟩))
    · exact .inr (.inr (.inr (.inr (.inl ⟨hb, he, ha, rfl, h⟩))))
  | absorbFinal len =>
    rcases accept_cases mayAbsorb (doAbsorbFinal len) s with ⟨hb, h⟩ | ⟨hb, he, h⟩ | ⟨hb, he, -, h⟩ | ⟨hb, he, ha, h⟩
    · exact .inl ⟨hb, h⟩
    · exact .inr (.inl ⟨hb, he, nofun, h⟩)
    · exact .inr (.inr (.inl ⟨hb, he, nofun, h⟩))
    · exact .inr (.inr (.inr (.inr (.inr (.inl ⟨hb, he, ha, len, rfl, h⟩)))))
  | squeeze =>
    rcases accept_cases maySqueeze doSqueeze s with ⟨hb, h⟩ | ⟨hb, he, h⟩ | ⟨hb, he, -, h⟩ | ⟨hb, he, ha, h⟩
    · exact .inl ⟨hb, h⟩
    · exact .inr (.inl ⟨hb, he, nofun, h⟩)
    · exact .inr (.inr (.inl ⟨hb, he, nofun, h⟩))
    · have hp : s.phase = .ready := by
        revert ha; cases s.phase <;> simp [maySqueeze]
      exact .inr (.inr (.inr (.inr (.inr (.inr ⟨hb, he, hp, rfl, h⟩)))))

/-- What a CMD write can do (R150): run a legal word's command, or reject the word. -/
theorem acceptCmd_cases (w : Word) (s : State) :
    (∃ i, decode w = .ok i ∧ acceptCmd w s = exec i s) ∨
    (∃ e, decode w = .error e ∧ acceptCmd w s = .next (rejectIllegal s)) := by
  unfold acceptCmd
  cases hd : decode w with
  | ok i    => exact .inl ⟨i, rfl, rfl⟩
  | error e => exact .inr ⟨e, rfl, rfl⟩

/-- What a write to a register can do (R184, R185, R187, R191). -/
theorem writeReg_cases (r : Reg) (v : Word) (s : State) :
    (r = .cmd ∧ writeReg r v s = acceptCmd v s) ∨
    (∃ j, r = .din j ∧ writeReg r v s = .next (writeDin j v s)) ∨
    (r = .rcIndex ∧ writeReg r v s = .next (writeRcIndex v s)) ∨
    (r ≠ .cmd ∧ writeReg r v s = .next s) := by
  cases r <;> simp [writeReg]

/-- What the PERM_ROUND step can do (R129, R128). -/
theorem permRound_cases (s : State) :
    (∃ h : s.round.toNat < Config.numRounds, s.round.toNat + 1 = Config.numRounds ∧
      permRound s =
        .next { s with S := blockRound s.rc ⟨s.round.toNat, h⟩ s.S, permActive := false, round := 0 }) ∨
    (∃ h : s.round.toNat < Config.numRounds, s.round.toNat + 1 ≠ Config.numRounds ∧
      permRound s = .next { s with S := blockRound s.rc ⟨s.round.toNat, h⟩ s.S, round := s.round + 1 }) ∨
    (Config.numRounds ≤ s.round.toNat ∧ permRound s = .fault .assertRoundIndex) := by
  unfold permRound
  by_cases h : s.round.toNat < Config.numRounds
  · by_cases hl : s.round.toNat + 1 = Config.numRounds
    · exact .inl ⟨h, hl, by rw [dif_pos h, if_pos hl]⟩
    · exact .inr (.inl ⟨h, hl, by rw [dif_pos h, if_neg hl]⟩)
  · exact .inr (.inr ⟨Nat.le_of_not_lt h, by rw [dif_neg h]⟩)

/-- What the host's turn can do (R88, R180): nothing to do, a write, a read, a POLL that ends or stays, a bus error. -/
theorem hostTurn_cases (s : State) :
    (s.host = [] ∧ hostTurn s = .next s) ∨
    (∃ width off v rest r, s.host = .wr width off v :: rest ∧ regOfAccess width off = some r ∧
      hostTurn s = writeReg r v { s with host := rest }) ∨
    (∃ width off rest r, s.host = .rd width off :: rest ∧ regOfAccess width off = some r ∧
      hostTurn s = .next { s with host := rest, reads := readReg r s :: s.reads }) ∨
    (∃ off mask value rest r, s.host = .poll off mask value :: rest ∧ regOfAccess .w32 off = some r ∧
      readReg r s &&& mask = value ∧ hostTurn s = .next { s with host := rest }) ∨
    (∃ off mask value rest r, s.host = .poll off mask value :: rest ∧ regOfAccess .w32 off = some r ∧
      readReg r s &&& mask ≠ value ∧ hostTurn s = .next s) ∨
    (∃ off, hostTurn s = .refused (.busError off)) := by
  cases hh : s.host with
  | nil => exact .inl ⟨rfl, by simp [hostTurn, hh]⟩
  | cons l rest =>
    cases l with
    | wr width off v =>
      cases ha : regOfAccess width off with
      | none => exact .inr (.inr (.inr (.inr (.inr ⟨off, by simp [hostTurn, hh, regWrite, ha]⟩))))
      | some r => exact .inr (.inl ⟨width, off, v, rest, r, rfl, ha, by simp [hostTurn, hh, regWrite, ha]⟩)
    | rd width off =>
      cases ha : regOfAccess width off with
      | none => exact .inr (.inr (.inr (.inr (.inr ⟨off, by simp [hostTurn, hh, regRead, ha]⟩))))
      | some r => exact .inr (.inr (.inl ⟨width, off, rest, r, rfl, ha, by simp [hostTurn, hh, regRead, ha]⟩))
    | poll off mask value =>
      cases ha : regOfAccess .w32 off with
      | none => exact .inr (.inr (.inr (.inr (.inr ⟨off, by simp [hostTurn, hh, regRead, ha]⟩))))
      | some r =>
        by_cases hv : readReg r s &&& mask = value
        · exact .inr (.inr (.inr (.inl ⟨off, mask, value, rest, r, rfl, ha, hv, by
            simp [hostTurn, hh, regRead, ha, hv]⟩)))
        · exact .inr (.inr (.inr (.inr (.inl ⟨off, mask, value, rest, r, rfl, ha, hv, by
            simp [hostTurn, hh, regRead, ha, hv]⟩))))

/-- The engines' turns (R108, R129). -/
theorem permTurn_eq (s : State) : permTurn s = if s.permActive then permRound s else .next s := rfl

theorem genTurn_eq (s : State) : genTurn s = .next (if s.rcReady then s else genStep s) := rfl

/-- A step is one agent's turn (R6, R62), with the turns that remain. -/
theorem step_turn (s : State) : ∃ a ts, step s = agentTurn a { s with turns := ts } ∧
    ((s.turns = a :: ts) ∨ (s.turns = [] ∧ ts = [] ∧ a = defaultAgent s)) := by
  cases ht : s.turns with
  | nil =>
    have hs : ({ s with turns := [] } : State) = s := by rw [← ht]
    exact ⟨defaultAgent s, [], by rw [hs]; simp [step, nextTurn, ht], .inr ⟨rfl, rfl, rfl⟩⟩
  | cons a ts => exact ⟨a, ts, by simp [step, nextTurn, ht], .inl rfl⟩

end Sys2Proof.Machine
end

