-- ==== Sys2Proof/Laws/Operands.lean ====
section
/-! SUPPORT. The register map, the bytes of blocks, and runs of several steps. -/

namespace Sys2Proof.Machine

/-- Every register is at its offset (R30). -/
@[simp] theorem regAt_regOffset (r : Reg) : regAt (regOffset r) = some r := by
  cases r with
  | din j => revert j; decide
  | dout j => revert j; decide
  | _ => rfl

/-- A register is reached at its own offset alone (R30). -/
theorem regAt_eq_some {off : Offset} {r : Reg} (h : regAt off = some r) : off = regOffset r := by
  have key : ∀ off : Offset, ∀ r ∈ regAt off, off = regOffset r := by decide +kernel
  exact key off r h

/-- A 32-bit access at a register's offset reaches it (R180). -/
@[simp] theorem regOfAccess_regOffset (r : Reg) : regOfAccess .w32 (regOffset r) = some r := by
  simp [regOfAccess]

/-- An admitted access is 32 bits wide and at a register's offset (R180). -/
theorem regOfAccess_eq_some {width : Width} {off : Offset} {r : Reg} (h : regOfAccess width off = some r) :
    width = .w32 ∧ off = regOffset r := by
  unfold regOfAccess at h
  split at h
  · exact ⟨‹_›, regAt_eq_some h⟩
  · cases h

/-- Byte b of the block in DIN (R153). -/
@[simp] theorem dinBlock_getElem (din : Words 8) (b : Nat) (h : b < 32) :
    (dinBlock din)[b] = dinByte din ⟨b, h⟩ := by
  simp [dinBlock]

/-- Byte b of the padded final block (R154). -/
theorem finalBlock_getElem (din : Words 8) (len : BitVec 5) (b : Nat) (h : b < 32) :
    (finalBlock din len)[b] =
      if b < len.toNat then dinByte din ⟨b, h⟩ else if b = len.toNat then Config.delimiter else 0x00 := by
  simp [finalBlock]

/-- Byte b of a block of a padded message (R157). -/
@[simp] theorem blockOf_getElem (p : List Byte) (i b : Nat) (h : b < 32) :
    (blockOf p i)[b] = p.getD (32 * i + b) 0x00 := by
  simp [blockOf]

/-- Byte b of the digest (R36, R54). -/
@[simp] theorem digestOfDout_getElem (dout : Words 8) (b : Nat) (h : b < 32) :
    (digestOfDout dout)[b] = lane dout[b / 4] (b % 4) := by
  simp [digestOfDout]

/-- One more round of the first n (R121, R131). -/
theorem roundsFn_succ (m : BitVec 256) (coef : Vector (BitVec 5) 48) (rc : Words 688) (n : Nat)
    (h : n < Config.numRounds) (S : Words 16) :
    roundsFn m coef rc (n + 1) S = roundFn m coef rc ⟨n, h⟩ (roundsFn m coef rc n S) := by
  unfold roundsFn
  rw [List.take_add_one, List.foldl_append, List.getElem?_eq_getElem (by simpa using h)]
  simp

/-- All the rounds are the permutation (R121). -/
theorem roundsFn_all (m : BitVec 256) (coef : Vector (BitVec 5) 48) (rc : Words 688) (S : Words 16) :
    roundsFn m coef rc Config.numRounds S = perm m coef rc S := by
  unfold roundsFn perm
  rw [List.take_of_length_le (by simp)]

/-- A run goes on from where a shorter one got. -/
theorem run_add {m n : Nat} {s t : State} (h : core.run m s = .next t) : core.run (m + n) s = core.run n t := by
  induction m generalizing s with
  | zero => cases h; rw [Nat.zero_add]
  | succ m ih =>
    rw [Nat.succ_add]
    simp only [Host.Core.run] at h ⊢
    cases hs : core.step s with
    | next u => rw [hs] at h; exact ih h
    | fault f => rw [hs] at h; cases h
    | refused r => rw [hs] at h; cases h

/-- A run of one step is that step. -/
theorem run_one {s t : State} (h : step s = .next t) : core.run 1 s = .next t := by
  have hc : core.step s = .next t := h
  simp only [Host.Core.run, hc]

end Sys2Proof.Machine
end

