-- ==== Sys2Proof/Laws/PerInstr.lean ====
section
/-! SUPPORT. For each command as syntax: its word matches its own row of the table of spec R83 and no other. -/

namespace Sys2Proof.Laws.OpcodeRow

/-- The word of a command matches its row of the table and no other row (R83: "The four rows never overlap"). -/
def Statement (i : Instr) : Prop :=
  opcodeRowOf i ∈ opcodeRows ∧ ∀ r ∈ opcodeRows, encode i &&& r.mask = r.matchBits ↔ r = opcodeRowOf i

theorem init : Statement .init := by unfold Statement; decide

theorem absorb : Statement .absorb := by unfold Statement; decide

theorem absorbFinal (len : BitVec 5) : Statement (.absorbFinal len) := by
  unfold Statement; revert len; decide

theorem squeeze : Statement .squeeze := by unfold Statement; decide

end Sys2Proof.Laws.OpcodeRow
end

