-- ==== Sys2Proof/Laws/RoundConstants.lean ====
section
/-! SUPPORT. The round-constant table is what the generator's function answers (spec R102 to R104, R108, R111). -/

namespace Sys2Proof.Laws

open Sys2Proof.Machine

/-- The little-endian words of the first 2752 bytes of SHAKE256(SEED) are the table of R111. -/
theorem generateConstants_seed : generateConstants Config.seed Config.numRounds = some rcTable.toList := by
  decide +kernel

end Sys2Proof.Laws
end

