-- ==== Sys2Proof/Tests/Slice0.lean ====
section
/-! SUPPORT. The model's own tests. Expected results are from spec/95_test_vectors.md and the rules' examples. The last
part shows, for every statement with hypotheses, states and operands that meet them. -/

namespace Sys2Proof.Tests

open Sys2Proof Sys2Proof.Machine Sys2Proof.Stated

/-! ### Well-formedness: an ill-formed term for each check -/

theorem test_config_no_rounds : Config.wf 0 [0x41] = false := by decide
theorem test_config_too_many_rounds : Config.wf 256 [0x41] = false := by decide
theorem test_config_empty_seed : Config.wf 43 [] = false := by decide
theorem test_config_bounds : Config.wf 1 [0x41] = true ∧ Config.wf 255 [0x41] = true := by decide
theorem test_asm_missing_operand : (AsmLine.mk .absorbFinal none).wf = false := by decide
theorem test_asm_len_too_large : (AsmLine.mk .absorbFinal (some 32)).wf = false := by decide
theorem test_asm_operand_elsewhere : (AsmLine.mk .absorb (some 1)).wf = false := by decide
theorem test_asm_largest_len : (AsmLine.mk .absorbFinal (some 31)).wf = true := by decide
/-- Every term of `Instr` is well formed: the largest LEN is 31 (R82). -/
theorem test_instr_largest_len : (Instr.absorbFinal 0x1F).wf = true := by decide

/-! ### Decoding: words written out from R80's fields, RES in 31:9, LEN in 8:4, OP in 3:0 -/

theorem test_decode_init : decode (0#23 ++ 0b00000#5 ++ 0b0001#4) = .ok .init := by decide
theorem test_decode_absorb : decode (0#23 ++ 0b00000#5 ++ 0b0010#4) = .ok .absorb := by decide
theorem test_decode_absorbFinal : decode (0#23 ++ 0b10011#5 ++ 0b0011#4) = .ok (.absorbFinal 19) := by decide
theorem test_decode_squeeze : decode (0#23 ++ 0b00000#5 ++ 0b0100#4) = .ok .squeeze := by decide
/-- W-7, W-8: the largest LEN, and the reserved bit above it. -/
theorem test_decode_len_edge :
    decode 0x000001F3 = .ok (.absorbFinal 31) ∧ decode 0x00000203 = .error .reservedBits := by decide
/-- W-1, W-10, W-11. -/
theorem test_decode_illegal : decode 0x00000000 = .error .reservedOp ∧ decode 0x0000000F = .error .reservedOp ∧
    decode 0x00000012 = .error .operandNotAllowed := by decide
/-- The bytes of a command in address order (R52), and too few of them (R86). -/
theorem test_decode_bytes : decodeBytes [0xF3, 0x01, 0x00, 0x00, 0xAA] = .ok (.absorbFinal 31, [0xAA]) ∧
    decodeBytes [0x01, 0x00] = .error .notOneWord := by decide
theorem test_decode_table_word : decodeTableWord 32 0x1F3 = some (.absorbFinal 31) ∧
    decodeTableWord 32 0x80000001 = none := by decide
/-- R87's syntax as text; an underscore in an operand is refused (log entry 15). -/
theorem test_asm_text : (asmLineOfChars "ABSORB_FINAL 0x1F".toList).bind assemble = some 0x1F3 ∧
    (asmLineOfChars "ABSORB_FINAL".toList).bind assemble = none ∧
    asmLineOfChars "ABSORB_FINAL 0x1_F".toList = none := by decide

/-! ### The generator -/

/-- G-1. -/
theorem test_seed_length : Config.seed.length = 374 := by decide +kernel
/-- G-4, G-5. -/
theorem test_table_edges : rcTable[15] = 0xb7bdeab0 ∧ rcTable[16] = 0x6260c9e6 ∧ rcTable[687] = 0xb7d8ce7f := by
  decide +kernel
/-- FIPS 202's round constants of the first and the last round, and of round 2 (log entry 8). -/
theorem test_keccak_constants : keccakConstant 0 = 1 ∧ keccakConstant 2 = 0x800000000000808A ∧
    keccakConstant 23 = 0x8000000080008008 := by decide +kernel
/-- X2: the bytes ae 40 9e 6e pack to RC[0]. -/
theorem test_pack_constant : packStream [0xae, 0x40, 0x9e, 0x6e] = [0x6e9e40ae] := by decide

/-! ### The layers -/

/-- A-4, A-5. -/
theorem test_arx_wraps : arxFst 0xffffffff 0x00000001 = 0 ∧ arxSnd 0xffffffff 0x00000001 = 0x01000000 ∧
    arxFst 0xffffffff 0xffffffff = 0xfffffeff ∧ arxSnd 0xffffffff 0xffffffff = 0xfffffefe := by decide
/-- A-7. -/
theorem test_arx_mixed : arxFst 0x12345678 0x9abcdef0 = 0xf13568ac ∧ arxSnd 0x12345678 0x9abcdef0 = 0xe1d0258a := by
  decide
/-- C-4, C-7, C-8. -/
theorem test_circ_word : circWord 0x80000001 0 2 4 = 0x8000001f ∧ circWord 0x80000001 0 27 31 = 0x4c000001 ∧
    circWord 0x12345678 5 5 9 = 0x68acf024 := by decide
/-- B-3: only entry 16·1+0 is 1, so input word 1 feeds output word 0. -/
theorem test_bitMat_entry : bitMat (1#256 <<< 16) #v[0xa, 0xb, 0, 0, 0, 0, 0, 0, 0, 0, 0, 0, 0, 0, 0, 0] =
    #v[0xb, 0, 0, 0, 0, 0, 0, 0, 0, 0, 0, 0, 0, 0, 0, 0] := by decide +kernel
/-- I-2: the first and the last word of Inject with r = 1. -/
theorem test_inject_slice : (inject rcTable 1 (Vector.replicate 16 0xffffffff))[0] = 0x9d9f3619 ∧
    (inject rcTable 1 (Vector.replicate 16 0xffffffff))[15] = 0xd5be8cdd := by decide +kernel
/-- RD-1: the first round of the zero state, with BIT_MATRIX and COEF of all zeros (any give the same). -/
theorem test_round_of_zero : roundFn 0 (Vector.replicate 48 0) rcTable 0 (Vector.replicate 16 0) =
    #v[0x30bcb0e0, 0x332e435c, 0x00065e75, 0xade14aa7, 0x5350691f, 0xee32331d, 0xc2a96364, 0xda561f58,
       0xe4a16573, 0x0f41e7e9, 0x97cc3748, 0x0f75f222, 0xa152bb4a, 0xf11dcab8, 0x1b7cf1de, 0xcc34afc8] := by
  decide +kernel

/-! ### The commands -/

/-- The state after reset and GEN (95_test_vectors.md). -/
def afterGen : State := genStep State.reset

/-- What a test looks at in an outcome. -/
def seen {α : Type} (f : State → α) : Host.Outcome State Fault Refusal → Option α
  | .next t    => some (f t)
  | .fault _   => none
  | .refused _ => none

/-- E-13: INIT clears the lock. -/
theorem test_init_unlocks : seen (fun t => (statusWord t, t.S[0], t.dout[0]))
    (exec .init { afterGen with
      phase := .squeezed, err := 1, S := Vector.replicate 16 7, dout := Vector.replicate 8 7 }) =
    some (0x02, 0, 0) := by decide
/-- E-10: INIT too is rejected while busy. -/
theorem test_init_busy : seen statusWord (exec .init { afterGen with phase := .ready, permActive := true }) =
    some 0x2B := by decide
/-- R153's example. -/
theorem test_absorb_first : seen (fun t => (statusWord t, t.S[0], t.S[1], t.S[8]))
    (exec .absorb { afterGen with din := (Vector.replicate 8 0).set 0 0x64636261 }) =
    some (0x07, 0x61626364, 0, 0) := by decide
/-- E-3: ABSORB in READY. -/
theorem test_absorb_ready : seen statusWord (exec .absorb { afterGen with phase := .ready }) = some 0x1A := by decide
/-- K-5: the delimiter in the last byte. -/
theorem test_absorbFinal_len31 : seen (fun t => (statusWord t, t.S.toList.take 9))
    (exec (.absorbFinal 31) { afterGen with
      din := #v[0x03020100, 0x07060504, 0x0b0a0908, 0x0f0e0d0c, 0x13121110, 0x17161514, 0x1b1a1918, 0x001e1d1c] }) =
    some (0x0B, [0x00010203, 0x04050607, 0x08090a0b, 0x0c0d0e0f, 0x10111213, 0x14151617, 0x18191a1b, 0x1c1d1e06, 0]) := by
  decide
/-- K-9: bytes from LEN on are ignored. -/
theorem test_absorbFinal_ignores : seen (fun t => t.S.toList.take 8)
    (exec (.absorbFinal 3) { afterGen with
      din := #v[0xff636261, 0xffffffff, 0xffffffff, 0xffffffff, 0xffffffff, 0xffffffff, 0xffffffff, 0xffffffff] }) =
    some [0x61626306, 0, 0, 0, 0, 0, 0, 0] := by decide
/-- R155's example, E-15. -/
theorem test_squeeze_ready : seen (fun t => (statusWord t, t.dout[0], (digestOfDout t.dout).toList.take 4, t.S[0]))
    (exec .squeeze { afterGen with phase := .ready, S := (Vector.replicate 16 0).set 0 0x11223344 }) =
    some (0x0E, 0x11223344, [0x44, 0x33, 0x22, 0x11], 0x11223344) := by decide
/-- E-1, E-5: SQUEEZE before absorbing, and again in SQUEEZED. -/
theorem test_squeeze_out_of_phase : seen statusWord (exec .squeeze afterGen) = some 0x12 ∧
    seen statusWord (exec .squeeze { afterGen with phase := .squeezed }) = some 0x1E := by decide
/-- E-8, E-9, E-12, E-16: busy before illegal; the first error is kept; busy until GEN. -/
theorem test_reject_order :
    seen statusWord (acceptCmd 0x0 { afterGen with phase := .absorbing, permActive := true }) = some 0x27 ∧
    seen statusWord (acceptCmd 0xF { afterGen with err := 1 }) = some 0x12 ∧
    seen statusWord (acceptCmd 0x1 State.reset) = some 0x21 := by decide

/-! ### Register access and steps -/

/-- M-8, M-9: RC_INDEX keeps 12 bits; the last constant; the first index out of range. -/
theorem test_rc_readback :
    seen (fun t => (regRead .w32 0x50 t, regRead .w32 0x54 t)) (regWrite .w32 0x50 0xFFFFF2AF afterGen) =
      some (some 0x2AF, some 0xb7d8ce7f) ∧
    seen (fun t => regRead .w32 0x54 t) (regWrite .w32 0x50 0x2B0 afterGen) = some (some 0) := by decide +kernel
/-- R183's example 0x0000_0507. -/
theorem test_status_fields : statusWord { afterGen with phase := .absorbing, permActive := true, round := 5 } = 0x507 := by
  decide
/-- M-11, M-12, M-13. -/
theorem test_bus_errors : regRead .w32 0x58 afterGen = none ∧ regRead .w32 0x02 afterGen = none ∧
    regWrite .w8 0x0C 0x1 afterGen = .refused (.busError 0x0C) := by
  refine ⟨by decide, by decide, rfl⟩
/-- M-6: DIN3 while busy and locked. -/
theorem test_din_write : seen (fun t => (regRead .w32 0x1C t, regRead .w32 0x18 t))
    (regWrite .w32 0x1C 0xDEADBEEF { State.reset with err := 2 }) = some (some 0xDEADBEEF, some 0) := by decide
/-- R241: the first step after reset is GEN. -/
theorem test_first_step_is_gen : seen (fun t => (statusWord t, t.rc[0])) (step State.reset) = some (0x2, 0x6e9e40ae) := by
  decide +kernel
/-- K-1: the very next step runs a command placed by `withFetchWord`. -/
theorem test_fetch_word : seen (fun t => (statusWord t, t.S[0], t.host))
    (step (State.reset.withFetchWord 32 0x3)) = some (0x0B, 0x06000000, []) := by decide
/-- P4, lines 5 and 6: a write to STATUS is ignored while locked. -/
theorem test_status_write : seen statusWord (regWrite .w32 0x08 0 { afterGen with err := 1 }) = some 0x12 := by decide

/-! ### Witnesses: the hypotheses of each statement are met -/

theorem afterGen_inv : BlockInv afterGen where
  errLegal := by decide
  roundLegal := by decide
  roundIdle := fun _ => rfl
  activeReady := nofun
  activePhase := nofun
  rcTable := fun _ => rfl
  doutZero := fun _ => rfl
  doutRate := nofun
  freshZero := fun _ => rfl
  unreadyFresh := nofun

theorem reset_inv : BlockInv State.reset where
  errLegal := by decide
  roundLegal := by decide
  roundIdle := fun _ => rfl
  activeReady := nofun
  activePhase := nofun
  rcTable := nofun
  doutZero := fun _ => rfl
  doutRate := nofun
  freshZero := fun _ => rfl
  unreadyFresh := fun _ => rfl

/-- A block in the last round of an ABSORB_FINAL's permutation. -/
def lastRound : State := { afterGen with phase := .ready, permActive := true, round := 42 }

theorem witness_LegalWordsAreTheTable : ∃ (w : Word) (r : OpcodeRow), r ∈ opcodeRows ∧ w &&& r.mask = r.matchBits :=
  ⟨0x1F3, ⟨"ABSORB_FINAL", 0x00000003, 0xFFFFFE0F⟩, by decide, by decide⟩

theorem witness_IllegalWordOnlyRecordsError : ∃ w : Word, ∃ e, decode w = .error e := ⟨0x00000203, .reservedBits, by decide⟩

theorem witness_AssemblerWordsAndRefusals : 31 ≤ 31 ∧ 31 < 32 ∧ Mnemonic.init ≠ .absorbFinal := by decide

theorem witness_StepRunsPresentedCommand : ∃ (s : State) (rest : List HostLine) (ts : List Agent),
    s.host = .wr .w32 0x0C 0x1 :: rest ∧ s.turns = .host :: ts ∧ decode 0x1 = .ok .init :=
  ⟨{ afterGen with host := [.wr .w32 0x0C 0x1], turns := [.host] }, [], [], rfl, rfl, by decide⟩

theorem witness_StepRunsPresentedCommand_default : ∃ (s : State) (rest : List HostLine),
    s.host = .wr .w32 0x0C 0x1 :: rest ∧ s.turns = [] ∧ busy s = false :=
  ⟨{ afterGen with host := [.wr .w32 0x0C 0x1] }, [], rfl, rfl, by decide⟩

theorem witness_StepRunsPresentedCommand_rcIndex : ∃ (s : State) (rest : List HostLine) (ts : List Agent),
    s.host = .wr .w32 0x50 0x2AF :: rest ∧ s.turns = .host :: ts :=
  ⟨{ afterGen with host := [.wr .w32 0x50 0x2AF], turns := [.host] }, [], [], rfl, rfl⟩

theorem witness_HostReadSteps_rd : ∃ (s : State) (v : Word),
    s.turns = .host :: [] ∧ regRead .w32 0x08 s = some v ∧ s.host = .rd .w32 0x08 :: [] :=
  ⟨{ afterGen with host := [.rd .w32 0x08], turns := [.host] }, 0x2, rfl, by decide, rfl⟩

theorem witness_HostReadSteps_poll : ∃ (s : State) (v : Word),
    s.turns = .host :: [] ∧ regRead .w32 0x08 s = some v ∧ s.host = .poll 0x08 0x1 0x0 :: [] ∧ v &&& 0x1 = 0x0 :=
  ⟨{ afterGen with host := [waitLine], turns := [.host] }, 0x2, rfl, by decide, rfl, by decide⟩

theorem witness_InitResult : busy { afterGen with phase := .squeezed, err := 3 } = false ∧ busy State.reset = true := by
  decide

theorem witness_AbsorbResult : busy afterGen = false ∧ afterGen.err = 0 ∧ afterGen.phase = .fresh := by decide

theorem witness_AbsorbFinalResult : ∃ s : State, busy s = false ∧ s.err = 0 ∧ s.phase = .absorbing :=
  ⟨{ afterGen with phase := .absorbing }, by decide⟩

theorem witness_AbsorbFinalIgnoresBytesPastLen : ∃ din : Words 8, din ≠ afterGen.din ∧
    ∀ b : Fin 32, b.val < (31#5).toNat → dinByte din b = dinByte afterGen.din b :=
  ⟨(Vector.replicate 8 0).set 7 0xFF000000, by decide, by decide⟩

theorem witness_SqueezeResult : ∃ s : State, busy s = false ∧ s.err = 0 ∧ s.phase = .ready :=
  ⟨{ afterGen with phase := .ready }, by decide⟩

theorem witness_PhaseTable : busy afterGen = false ∧ afterGen.err = 0 ∧
    phaseAfter afterGen.phase .absorb = some .absorbing ∧ phaseAfter afterGen.phase .squeeze = none := by decide

theorem witness_PhaseTable_init : busy { afterGen with err := 2 } = false ∧ (Instr.init = .init) := by decide

theorem witness_BusyRejectsEveryWord : busy State.reset = true ∧ busy lastRound = true := by decide

theorem witness_LockDiscardsCommands : ∃ s : State, busy s = false ∧ s.err ≠ 0 ∧ Instr.absorb ≠ .init ∧
    (0x0 : Word) ≠ 0x1 :=
  ⟨{ afterGen with err := 1 }, by decide⟩

/-- A locked block about to be given INIT. -/
def lockedInit : State := { afterGen with err := 1, phase := .squeezed, host := [.wr .w32 0x0C 0x1], turns := [.host] }

theorem witness_LockLeftOnlyByInitOrReset : ∃ t, step lockedInit = .next t ∧ lockedInit.err ≠ 0 ∧ t.err ≠ lockedInit.err :=
  ⟨doInit { lockedInit with host := [], turns := [] }, rfl, by decide, by decide⟩

/-- A locked block about to be reset. -/
def lockedReset : State := { afterGen with err := 1, phase := .squeezed, turns := [.resetLine] }

theorem witness_LockLeftOnlyByInitOrReset_reset :
    ∃ t, step lockedReset = .next t ∧ lockedReset.err ≠ 0 ∧ t.err ≠ lockedReset.err :=
  ⟨resetBlock { lockedReset with turns := [] }, rfl, by decide, by decide⟩

theorem witness_PhaseChangesOnlyByCommandOrReset : ∃ t, step lockedInit = .next t ∧ t.phase ≠ lockedInit.phase :=
  ⟨doInit { lockedInit with host := [], turns := [] }, rfl, by decide⟩

theorem witness_SqueezedIsTerminal : ∃ s : State, Instr.squeeze ≠ .init ∧ s.phase = .squeezed ∧ busy s = false ∧ s.err = 0 :=
  ⟨{ afterGen with phase := .squeezed }, by decide⟩

theorem witness_SqueezedIsTerminal_left :
    ∃ t, step lockedInit = .next t ∧ lockedInit.phase = .squeezed ∧ t.phase ≠ .squeezed :=
  ⟨doInit { lockedInit with host := [], turns := [] }, rfl, rfl, by decide⟩

/-- A block in READY with a rate that is not zero, about to be given SQUEEZE. -/
def readySqueeze : State :=
  { afterGen with phase := .ready, S := Vector.replicate 16 7, host := [.wr .w32 0x0C 0x4], turns := [.host] }

theorem witness_DoutWrittenOnlyBySqueezeInitReset : ∃ t, step readySqueeze = .next t ∧ t.dout ≠ readySqueeze.dout :=
  ⟨doSqueeze { readySqueeze with host := [], turns := [] }, rfl, by decide⟩

/-- A block about to have DIN7 written. -/
def dinWrite : State := { afterGen with host := [.wr .w32 0x2C 0x1], turns := [.host] }

theorem witness_DinWrittenOnlyByHostAndReset : ∃ t, step dinWrite = .next t ∧ t.din ≠ dinWrite.din :=
  ⟨writeDin 7 0x1 { dinWrite with host := [], turns := [] }, rfl, by decide⟩

theorem witness_RcWrittenOnlyByGenAndReset : ∃ t, step State.reset = .next t ∧ t.rcReady ≠ State.reset.rcReady :=
  ⟨afterGen, rfl, by decide⟩

/-- A block about to absorb a byte. -/
def absorbOne : State :=
  { afterGen with din := Vector.replicate 8 1, host := [.wr .w32 0x0C 0x13], turns := [.host] }

theorem witness_PermutationStateWriters : ∃ t, step absorbOne = .next t ∧ t.S ≠ absorbOne.S :=
  ⟨doAbsorbFinal 1 { absorbOne with host := [], turns := [] }, rfl, by decide⟩

theorem witness_AdmissionIsExact : admitted .w32 0x54 ∧ ¬ admitted .w32 0x58 ∧ ¬ admitted .w32 0x53 ∧ ¬ admitted .w64 0x54 := by
  unfold admitted; decide

theorem witness_AdmissionIsExact_host : ∃ s : State, turnOf s = .host ∧ s.host = .rd .w32 0x58 :: [] :=
  ⟨{ afterGen with host := [.rd .w32 0x58], turns := [.host] }, rfl, rfl⟩

theorem witness_WindowIsOnePage : windowOffset (Config.base + 0x100) = none := by
  simp [windowOffset]

theorem witness_RcDataReads : ∃ s t : State, s.rcIndex.toNat = 687 ∧ s.rcReady = true ∧ 688 ≤ t.rcIndex.toNat :=
  ⟨{ afterGen with rcIndex := 687 }, { afterGen with rcIndex := 688 }, by decide⟩

theorem witness_ReadOnlyWritesIgnored : (admitted .w32 0x54 ∧ ¬ writable 0x54) ∧ (admitted .w32 0x30 ∧ ¬ writable 0x30) := by
  unfold admitted writable; decide

/-- A block about to be polled. -/
def polled : State := { afterGen with host := [waitLine], turns := [.host] }

theorem witness_ReadsAndIgnoredWritesKeepTheBlock : ∃ t, step polled = .next t ∧ turnOf polled = .host ∧
    ∀ width off v rest, polled.host = .wr width off v :: rest → ¬ writable off :=
  ⟨{ polled with host := [], turns := [] }, rfl, rfl, by intro _ _ _ _ h; simp [polled, waitLine] at h⟩

theorem witness_CapacityNeverExposed : ∃ T : Words 16, T ≠ afterGen.S ∧ ∀ j : Fin 8, T[j.val] = afterGen.S[j.val] :=
  ⟨(Vector.replicate 16 0).set 8 1, by decide, by decide⟩

theorem witness_RcUnobservableBeforeGen : ∃ s t : State, BlockInv s ∧ s.rc[0] ≠ t.rc[0] ∧ sameButUnreadyRc s t :=
  ⟨State.reset, { State.reset with rc := rcTable }, reset_inv, by decide, .inr ⟨rfl, rfl⟩⟩

theorem witness_ControlIndependentOfData : ∃ s t : State, s.S[0] ≠ t.S[0] ∧ controlOf s = controlOf t :=
  ⟨afterGen, { afterGen with S := Vector.replicate 16 1 }, by decide, rfl⟩

theorem witness_PermRoundStep : ∃ s t u : State,
    (s.turns = .permEngine :: [] ∧ s.round.toNat < 43 ∧ s.round.toNat + 1 = 43 ∧ s.permActive = true) ∧
    (t.turns = .permEngine :: [] ∧ 43 ≤ t.round.toNat ∧ t.permActive = true) ∧
    (u.turns = .permEngine :: [] ∧ u.permActive = false) :=
  ⟨{ lastRound with turns := [.permEngine] }, { lastRound with round := 43, turns := [.permEngine] },
    { afterGen with turns := [.permEngine] }, by decide⟩

theorem witness_PermutationEndsAfterAllRounds : ∃ s : State, s.permActive = true ∧ s.round = 0 ∧
    s.turns = List.replicate 43 .permEngine ++ [] :=
  ⟨{ lastRound with round := 0, turns := List.replicate 43 .permEngine }, by decide⟩

theorem witness_CircRotatesEachWord : ∃ S : Words 16, ∀ i : Fin 16, S[i.val] = 0xFFFFFFFF :=
  ⟨Vector.replicate 16 0xFFFFFFFF, by decide⟩

theorem witness_GenStepFillsTheTable : ∃ s t : State, (s.turns = .generator :: [] ∧ s.rcReady = false) ∧
    (t.turns = .generator :: [] ∧ t.rcReady = true) :=
  ⟨{ State.reset with turns := [.generator] }, { afterGen with turns := [.generator] }, by decide⟩

theorem witness_ConstantCount : ∃ l, generateConstants [0x41] 1 = some l := ⟨_, rfl⟩

theorem witness_ResetEvent : ∃ s : State, s.turns = .resetLine :: [] := ⟨lockedReset, rfl⟩

theorem witness_AfterReset : ∃ u, busy afterGen = false ∧ afterGen.round = 0 ∧ exec .init afterGen = .next u :=
  ⟨doInit afterGen, by decide, rfl, rfl⟩

theorem witness_StepKeepsInv : ∃ t, BlockInv State.reset ∧ step State.reset = .next t := ⟨afterGen, reset_inv, rfl⟩

theorem witness_InvExcludesTheFault : BlockInv afterGen := afterGen_inv

theorem lastRound_inv : BlockInv lastRound where
  errLegal := by decide
  roundLegal := by decide
  roundIdle := nofun
  activeReady := fun _ => rfl
  activePhase := fun _ => .inr rfl
  rcTable := fun _ => rfl
  doutZero := fun _ => rfl
  doutRate := nofun
  freshZero := nofun
  unreadyFresh := nofun

theorem witness_BusyEnds : ∃ s : State, BlockInv s ∧ s.turns = [] ∧ busy s = true := ⟨lastRound, lastRound_inv, rfl, rfl⟩

theorem witness_RaceHasBothOutcomes : ∃ s : State, s.permActive = true ∧ s.round = 42 ∧ s.rcReady = true ∧ s.err = 0 ∧
    s.phase = .ready ∧ s.host = .wr .w32 0x0C 0x4 :: [] :=
  ⟨{ lastRound with host := [.wr .w32 0x0C 0x4] }, by decide⟩

theorem witness_CommandBlocksArePaddedBlocks_full : ∃ (M : List Byte) (din : Words 8), 0 < M.length / 32 ∧
    ∀ j : Fin 8, din[j.val] = dinWordOf ((M.drop (32 * 0)).take 32) 0x00 j.val :=
  ⟨List.replicate 32 0x41, Vector.replicate 8 0x41414141, by decide⟩

theorem witness_CommandBlocksArePaddedBlocks_final : ∃ (M : List Byte) (din : Words 8), M.length % 32 = 31 ∧
    ∀ j : Fin 8, 4 * j.val < M.length % 32 → din[j.val] = dinWordOf (M.drop (32 * (M.length / 32))) 0xFF j.val :=
  ⟨List.replicate 31 0x41, (Vector.replicate 8 0x41414141).set 7 0xFF414141, by decide⟩

theorem witness_EmptyMessageBlock : busy { afterGen with err := 1, phase := .squeezed } = false := by decide

theorem witness_HashOfEveryMessage : ∃ (M : List Byte) (s : State), BlockInv s ∧ s.turns = [] ∧
    s.host = hashLines 0xFF M ++ [.rd .w32 0x08] :=
  ⟨[0x61, 0x62, 0x63], { State.reset with host := hashLines 0xFF [0x61, 0x62, 0x63] ++ [.rd .w32 0x08] },
    ⟨reset_inv.1, reset_inv.2, reset_inv.3, reset_inv.4, reset_inv.5, reset_inv.6, reset_inv.7, reset_inv.8,
      reset_inv.9, reset_inv.10⟩, rfl, rfl⟩

end Sys2Proof.Tests
end

