-- ==== Sys2Proof/Proofs/Configuration.lean ====
section
/-! SUPPORT. Which configurations the generator's function refuses (spec R8, R107). -/

namespace Sys2Proof

/-- R8's check as a proposition. -/
theorem Config.wf_iff (numRounds : Nat) (seed : List Byte) :
    Config.wf numRounds seed = true ↔ 1 ≤ numRounds ∧ numRounds ≤ 255 ∧ seed ≠ [] := by
  simp [Config.wf, and_assoc]

/-- Only the configuration check makes `generateConstants` refuse; the XOF and the packing never do. -/
theorem Machine.generateConstants_eq_none_iff (seed : List Byte) (numRounds : Nat) :
    Machine.generateConstants seed numRounds = none ↔ ¬ Config.wf numRounds seed = true := by
  simp only [Machine.generateConstants, ite_eq_right_iff, reduceCtorEq, imp_false]

/-- Settles O48: the refusal is the negation of R8's check, and this hardware's table is an answer. -/
theorem configurationCheck : Obligations.ConfigurationCheck := by
  unfold Obligations.ConfigurationCheck
  constructor
  · intro seed n
    rw [Machine.generateConstants_eq_none_iff, Config.wf_iff, not_and_or, not_and_or, not_le, not_le, not_ne_iff]
  · rw [Laws.generateConstants_seed]
    exact Option.some_ne_none _

end Sys2Proof
end

/-! SUPPORT. The register accesses: which of them reach a register, and what they answer (spec R180, R184, R190). -/

namespace Sys2Proof

open Sys2Proof.Machine Sys2Proof.Stated

namespace Machine

/-- A command answers a next state from every state: it is rejected, discarded or has its effect (R150). -/
theorem exec_completes (i : Instr) (s : State) : ∃ t, exec i s = .next t := by
  rcases exec_cases i s with ⟨-, h⟩ | ⟨-, -, -, h⟩ | ⟨-, -, -, h⟩ | ⟨-, -, h⟩ | ⟨-, -, -, -, h⟩ |
    ⟨-, -, -, len, -, h⟩ | ⟨-, -, -, -, h⟩ <;> exact ⟨_, h⟩

/-- A CMD write completes, whatever its word (R150). -/
theorem acceptCmd_completes (w : Word) (s : State) : ∃ t, acceptCmd w s = .next t := by
  rcases acceptCmd_cases w s with ⟨i, -, h⟩ | ⟨-, -, h⟩
  · rw [h]; exact exec_completes i s
  · exact ⟨_, h⟩

/-- A write that reaches a register completes (R180). -/
theorem writeReg_completes (r : Reg) (v : Word) (s : State) : ∃ t, writeReg r v s = .next t := by
  rcases writeReg_cases r v s with ⟨-, h⟩ | ⟨j, -, h⟩ | ⟨-, h⟩ | ⟨-, h⟩
  · rw [h]; exact acceptCmd_completes v s
  all_goals exact ⟨_, h⟩

/-- An offset leads to no register exactly when it is misaligned or reserved (R39, R56). -/
theorem regAt_eq_none_iff (off : Offset) : regAt off = none ↔ ¬ (off.toNat % 4 = 0 ∧ off.toNat < 0x58) := by
  unfold regAt
  dsimp only
  split_ifs <;> simp only [false_iff, true_iff] <;> omega

/-- An access reaches no register exactly when R180 does not admit it. -/
theorem regOfAccess_eq_none_iff (width : Width) (off : Offset) :
    regOfAccess width off = none ↔ ¬ admitted width off := by
  unfold regOfAccess admitted
  split
  case isTrue hw => simp only [hw, true_and, regAt_eq_none_iff]
  case isFalse hw => simp only [hw, false_and, not_false_eq_true]

/-- An admitted access reaches a register (R180). -/
theorem exists_reg_of_admitted {width : Width} {off : Offset} (h : admitted width off) :
    ∃ r, regOfAccess width off = some r :=
  Option.ne_none_iff_exists'.mp fun hn => (regOfAccess_eq_none_iff width off).mp hn h

theorem regRead_of_reg {width : Width} {off : Offset} {r : Reg} (h : regOfAccess width off = some r) (s : State) :
    regRead width off s = some (readReg r s) := by
  simp only [regRead, h]

theorem regWrite_of_reg {width : Width} {off : Offset} {r : Reg} (h : regOfAccess width off = some r) (v : Word)
    (s : State) : regWrite width off v s = writeReg r v s := by
  simp only [regWrite, h]

/-- An access that is not admitted answers no data (R180). -/
theorem regRead_of_not_admitted {width : Width} {off : Offset} (h : ¬ admitted width off) (s : State) :
    regRead width off s = none := by
  simp only [regRead, (regOfAccess_eq_none_iff width off).mpr h]

/-- A write that is not admitted is a bus error (R180). -/
theorem regWrite_of_not_admitted {width : Width} {off : Offset} (h : ¬ admitted width off) (v : Word) (s : State) :
    regWrite width off v s = .refused (.busError off) := by
  simp only [regWrite, (regOfAccess_eq_none_iff width off).mpr h]

/-- A RD or WR line that is not admitted has no step (R180). -/
theorem hostTurn_of_not_admitted {width : Width} {off : Offset} {v : Word} {s : State} {rest : List HostLine}
    (h : ¬ admitted width off) (hs : s.host = .rd width off :: rest ∨ s.host = .wr width off v :: rest) :
    hostTurn s = .refused (.busError off) := by
  rcases hs with hs | hs
  · simp only [hostTurn, hs, regRead_of_not_admitted h]
  · simp only [hostTurn, hs, regWrite_of_not_admitted h]

/-- A step is the turn of the agent whose turn it is, with the turns that remain (R6, R62). -/
theorem step_eq_agentTurn (s : State) : ∃ ts, step s = agentTurn (turnOf s) { s with turns := ts } := by
  obtain ⟨a, ts, h, hturns⟩ := step_turn s
  have ha : turnOf s = a := by
    rcases hturns with ht | ⟨ht, -, hd⟩
    · simp only [turnOf, ht]
    · simp only [turnOf, ht, hd]
  exact ⟨ts, by rw [ha, h]⟩

/-- Before GEN, or past the table's end, RC_DATA is 0 (R38, R190). -/
theorem rcDataWord_eq_zero {s : State} (h : s.rcReady = false ∨ 688 ≤ s.rcIndex.toNat) : rcDataWord s = 0 := by
  unfold rcDataWord
  rcases h with h | h
  · simp only [h, Bool.false_eq_true, if_false, dite_eq_ite, ite_self]
  · exact dif_neg (Nat.not_lt.mpr h)

/-- After GEN, within the table, RC_DATA is the indexed constant (R38, R190). -/
theorem rcDataWord_eq_getElem {s : State} (h : s.rcIndex.toNat < 688) (hr : s.rcReady = true) :
    rcDataWord s = s.rc[s.rcIndex.toNat] := by
  unfold rcDataWord
  rw [dif_pos h, if_pos hr]

end Machine

/-- Settles O25: an access is decided by whether it reaches a register, and every register can be read and written. -/
theorem admissionIsExact : Obligations.AdmissionIsExact := by
  unfold Obligations.AdmissionIsExact
  intro width off v s
  constructor
  · intro h
    obtain ⟨r, hr⟩ := exists_reg_of_admitted h
    rw [regRead_of_reg hr, regWrite_of_reg hr]
    exact ⟨⟨_, rfl⟩, writeReg_completes r v s⟩
  · intro h
    refine ⟨regRead_of_not_admitted h s, regWrite_of_not_admitted h v s, fun hturn rest hs => ?_⟩
    obtain ⟨ts, hstep⟩ := step_eq_agentTurn s
    rw [hstep, hturn]
    exact hostTurn_of_not_admitted h hs

/-- Settles O30: offset 0x54 is RC_DATA's, whose word R190 gives and whose writes R184 ignores. -/
theorem rcDataReads : Obligations.RcDataReads := by
  unfold Obligations.RcDataReads
  intro s
  have haccess : regOfAccess .w32 0x54 = some .rcData := regOfAccess_regOffset .rcData
  have hread : regRead .w32 0x54 s = some (rcDataWord s) := regRead_of_reg haccess s
  refine ⟨fun h hr => ?_, fun h => ?_, fun v => regWrite_of_reg haccess v s⟩
  · rw [hread, rcDataWord_eq_getElem h hr]
  · rw [hread, rcDataWord_eq_zero h]

end Sys2Proof

/-! SUPPORT. Which steps change PHASE (spec R24, R150, R151). -/

namespace Sys2Proof

open Sys2Proof.Machine Sys2Proof.Stated

/-- Two words with the same RES, LEN and OP are one word (R80). -/
theorem eq_of_cmdFields {v w : Word} (hres : cmdRes v = cmdRes w) (hlen : cmdLen v = cmdLen w)
    (hop : cmdOp v = cmdOp w) : v = w := by
  have hres' := congrArg BitVec.toNat hres
  have hlen' := congrArg BitVec.toNat hlen
  have hop' := congrArg BitVec.toNat hop
  simp only [cmdRes, cmdLen, cmdOp, BitVec.extractLsb'_toNat, Nat.shiftRight_eq_div_pow] at hres' hlen' hop'
  apply BitVec.eq_of_toNat_eq
  omega

/-- The fields of ABSORB_FINAL's word (R82, R83). -/
theorem cmdFields_encode_absorbFinal (len : BitVec 5) :
    cmdRes (encode (.absorbFinal len)) = 0 ∧ cmdLen (encode (.absorbFinal len)) = len ∧
      cmdOp (encode (.absorbFinal len)) = 0x3 := by
  revert len; decide

/-- A word decodes to a command only if it is the command's own word (R83): the decoder has tested its three fields. -/
theorem eq_encode_of_decode {w : Word} {i : Instr} (h : decode w = .ok i) : w = encode i := by
  unfold decode at h
  split_ifs at h with hres hfinal hop hlen hinit habsorb <;> cases h
  · obtain ⟨eres, elen, eop⟩ := cmdFields_encode_absorbFinal (cmdLen w)
    exact eq_of_cmdFields ((not_not.mp hres).trans eres.symm) elen.symm (hfinal.trans eop.symm)
  · exact eq_of_cmdFields (not_not.mp hres) (not_not.mp hlen) hinit
  · exact eq_of_cmdFields (not_not.mp hres) (not_not.mp hlen) habsorb
  · have hsqueeze : cmdOp w = 0x4 := by_contra fun hne => hop ⟨hinit, habsorb, hne⟩
    exact eq_of_cmdFields (not_not.mp hres) (not_not.mp hlen) hsqueeze

namespace Machine

/-- What a host's turn that completes can do (R88, R150, R180 to R192): run a command, reject an illegal word, write a DIN
word, write RC_INDEX, or leave the block as it is. -/
theorem hostTurn_next_cases {s t : State} (h : hostTurn s = .next t) :
    (∃ i rest, s.host = .wr .w32 0x0C (encode i) :: rest ∧ exec i { s with host := rest } = .next t) ∨
    (∃ w e rest, s.host = .wr .w32 0x0C w :: rest ∧ decode w = .error e ∧ t = rejectIllegal { s with host := rest }) ∨
    (∃ j v rest, s.host = .wr .w32 (regOffset (.din j)) v :: rest ∧ t = writeDin j v { s with host := rest }) ∨
    (∃ v rest, s.host = .wr .w32 0x50 v :: rest ∧ t = writeRcIndex v { s with host := rest }) ∨
    sameBlock s t := by
  rcases hostTurn_cases s with ⟨-, ht⟩ | ⟨width, off, v, rest, r, hs, hr, ht⟩ | ⟨-, -, rest, r, -, -, ht⟩ |
    ⟨-, -, -, rest, -, -, -, -, ht⟩ | ⟨-, -, -, -, -, -, -, -, ht⟩ | ⟨off, ht⟩ <;> rw [ht] at h
  case inr.inl =>
    obtain ⟨rfl, rfl⟩ := regOfAccess_eq_some hr
    rcases writeReg_cases r v { s with host := rest } with ⟨rfl, hw⟩ | ⟨j, rfl, hw⟩ | ⟨rfl, hw⟩ | ⟨-, hw⟩ <;>
      rw [hw] at h
    · rcases acceptCmd_cases v { s with host := rest } with ⟨i, hd, hc⟩ | ⟨e, hd, hc⟩ <;> rw [hc] at h
      · exact .inl ⟨i, rest, eq_encode_of_decode hd ▸ hs, h⟩
      · cases h; exact .inr (.inl ⟨v, e, rest, hs, hd, rfl⟩)
    · cases h; exact .inr (.inr (.inl ⟨j, v, rest, hs, rfl⟩))
    · cases h; exact .inr (.inr (.inr (.inl ⟨v, rest, hs, rfl⟩)))
    · cases h; exact .inr (.inr (.inr (.inr rfl)))
  all_goals cases h
  all_goals exact .inr (.inr (.inr (.inr rfl)))

@[simp] theorem rejectIllegal_phase (s : State) : (rejectIllegal s).phase = s.phase := by
  rcases rejectIllegal_cases s with ⟨-, h⟩ | ⟨-, h⟩ <;> rw [h, reject_phase]

/-- A command that changes PHASE is accepted, and PHASE goes where the table of R151 says. -/
theorem phaseAfter_of_exec {i : Instr} {s t : State} (h : exec i s = .next t) (hp : t.phase ≠ s.phase) :
    busy s = false ∧ (i = .init ∨ s.err = 0) ∧ phaseAfter s.phase i = some t.phase := by
  rcases exec_cases i s with ⟨-, hx⟩ | ⟨-, -, -, hx⟩ | ⟨-, -, -, hx⟩ | ⟨hb, rfl, hx⟩ | ⟨hb, he, ha, rfl, hx⟩ |
    ⟨hb, he, ha, len, rfl, hx⟩ | ⟨hb, he, hr, rfl, hx⟩ <;> rw [hx] at h <;> cases h
  · exact absurd (reject_phase s _) hp
  · exact absurd rfl hp
  · exact absurd (reject_phase s _) hp
  · exact ⟨hb, .inl rfl, by simp [phaseAfter]⟩
  · exact ⟨hb, .inr he, by revert ha; cases s.phase <;> simp [mayAbsorb, phaseAfter]⟩
  · exact ⟨hb, .inr he, by revert ha; cases s.phase <;> simp [mayAbsorb, phaseAfter]⟩
  · exact ⟨hb, .inr he, by simp [hr, phaseAfter]⟩

/-- A host's turn changes PHASE only by a command written to CMD and accepted. -/
theorem accepted_of_hostTurn_phase {s t : State} (h : hostTurn s = .next t) (hp : t.phase ≠ s.phase) :
    ∃ i rest, s.host = .wr .w32 0x0C (encode i) :: rest ∧
      busy s = false ∧ (i = .init ∨ s.err = 0) ∧ phaseAfter s.phase i = some t.phase := by
  rcases hostTurn_next_cases h with ⟨i, rest, hs, hx⟩ | ⟨-, -, rest, -, -, rfl⟩ | ⟨j, v, rest, -, rfl⟩ |
    ⟨v, rest, -, rfl⟩ | hsame
  · have haccepted := phaseAfter_of_exec hx hp
    exact ⟨i, rest, hs, haccepted⟩
  · exact absurd (rejectIllegal_phase _) hp
  · exact absurd rfl hp
  · exact absurd rfl hp
  · exact absurd (congrArg State.phase hsame) hp

/-- The permutation engine leaves PHASE alone (R129). -/
theorem permTurn_phase {s t : State} (h : permTurn s = .next t) : t.phase = s.phase := by
  rw [permTurn_eq] at h
  split at h
  · rcases permRound_cases s with ⟨hlt, -, hr⟩ | ⟨hlt, -, hr⟩ | ⟨-, hr⟩ <;> rw [hr] at h <;> cases h <;> rfl
  · cases h; rfl

/-- The constant generator leaves PHASE alone (R108). -/
theorem genTurn_phase {s t : State} (h : genTurn s = .next t) : t.phase = s.phase := by
  rw [genTurn_eq] at h
  cases h
  split <;> rfl

end Machine

/-- Settles O19, by the agent whose turn the step is: the engines leave PHASE alone, the host changes it only by an
accepted command, and reset makes it FRESH. -/
theorem phaseChangesOnlyByCommandOrReset : Obligations.PhaseChangesOnlyByCommandOrReset := by
  unfold Obligations.PhaseChangesOnlyByCommandOrReset
  intro s t h hp
  obtain ⟨ts, hstep⟩ := step_eq_agentTurn s
  rw [hstep] at h
  cases hturn : turnOf s <;> rw [hturn] at h
  case host =>
    obtain ⟨i, rest, hs, hb, he, hnew⟩ := accepted_of_hostTurn_phase h hp
    exact .inl ⟨i, ⟨⟨hturn, rest, hs⟩, hb, he⟩, hnew⟩
  case permEngine => exact absurd (permTurn_phase h) hp
  case generator => exact absurd (genTurn_phase h) hp
  case resetLine => cases h; exact .inr ⟨rfl, rfl⟩

end Sys2Proof

/-! SUPPORT. The legal command words, as the encoder and as the opcode table give them, and what an illegal word does
(spec R80 to R85, R150). -/

namespace Sys2Proof

open Sys2Proof.Machine Sys2Proof.Stated

/-! ### The decoder against the encoder -/

/-- A command's own word decodes to it (R83), with LEN at every value (R82). -/
@[simp] theorem decode_encode (i : Instr) : decode (encode i) = .ok i := by
  cases i with
  | init => decide
  | absorb => decide
  | absorbFinal len => revert len; decide
  | squeeze => decide

theorem exists_decode_iff_exists_encode (w : Word) : (∃ i, decode w = .ok i) ↔ ∃ i, w = encode i :=
  exists_congr fun i => ⟨eq_encode_of_decode, fun h => h ▸ decode_encode i⟩

theorem encode_injective : Function.Injective encode := fun i j h =>
  Except.ok.inj ((decode_encode i).symm.trans ((congrArg decode h).trans (decode_encode j)))

/-- The words of the commands (R83): three with no operand, and ABSORB_FINAL's. -/
theorem exists_encode_iff (w : Word) :
    (∃ i, w = encode i) ↔ w = 0x1 ∨ w = 0x2 ∨ w = 0x4 ∨ ∃ len : BitVec 5, w = 0x3 ||| (len.setWidth 32 <<< 4) := by
  constructor
  · rintro ⟨i, rfl⟩
    cases i with
    | init => exact .inl rfl
    | absorb => exact .inr (.inl rfl)
    | absorbFinal len => exact .inr (.inr (.inr ⟨len, rfl⟩))
    | squeeze => exact .inr (.inr (.inl rfl))
  · rintro (h | h | h | ⟨len, h⟩)
    · exact ⟨.init, h⟩
    · exact ⟨.absorb, h⟩
    · exact ⟨.squeeze, h⟩
    · exact ⟨.absorbFinal len, h⟩

/-! ### The decoder against the opcode table -/

/-- A command's word matches the command's row of the table and no other (R83). -/
theorem opcodeRow_statement (i : Instr) : Laws.OpcodeRow.Statement i := by
  cases i with
  | init => exact Laws.OpcodeRow.init
  | absorb => exact Laws.OpcodeRow.absorb
  | absorbFinal len => exact Laws.OpcodeRow.absorbFinal len
  | squeeze => exact Laws.OpcodeRow.squeeze

/-- A word that matches ABSORB_FINAL's row is the ABSORB_FINAL word of its own LEN: the row's mask leaves RES and OP as
they are. -/
theorem eq_encode_absorbFinal_of_mask {w : Word} (h : w &&& 0xFFFFFE0F = 0x00000003) :
    w = encode (.absorbFinal (cmdLen w)) := by
  have hres : cmdRes (w &&& 0xFFFFFE0F) = cmdRes w := by
    rw [cmdRes, BitVec.extractLsb'_and]; exact BitVec.and_allOnes
  have hop : cmdOp (w &&& 0xFFFFFE0F) = cmdOp w := by
    rw [cmdOp, BitVec.extractLsb'_and]; exact BitVec.and_allOnes
  obtain ⟨eres, elen, eop⟩ := cmdFields_encode_absorbFinal (cmdLen w)
  rw [h] at hres hop
  exact eq_of_cmdFields (hres.symm.trans eres.symm) elen.symm (hop.symm.trans eop.symm)

/-- A word that matches a row of the table is the word of a command of that row (R83). -/
theorem exists_encode_of_matches_row {w : Word} {r : OpcodeRow} (hr : r ∈ opcodeRows)
    (h : w &&& r.mask = r.matchBits) : ∃ i, w = encode i ∧ r = opcodeRowOf i := by
  have hfull : w &&& 0xFFFFFFFF = w := BitVec.and_allOnes
  simp only [opcodeRows, List.mem_cons, List.not_mem_nil, or_false] at hr
  rcases hr with rfl | rfl | rfl | rfl
  · exact ⟨.init, hfull.symm.trans h, rfl⟩
  · exact ⟨.absorb, hfull.symm.trans h, rfl⟩
  · exact ⟨.absorbFinal (cmdLen w), eq_encode_absorbFinal_of_mask h, rfl⟩
  · exact ⟨.squeeze, hfull.symm.trans h, rfl⟩

/-- The four rows never overlap (R83). -/
theorem eq_of_matches_rows {w : Word} {r q : OpcodeRow} (hr : r ∈ opcodeRows) (hq : q ∈ opcodeRows)
    (hwr : w &&& r.mask = r.matchBits) (hwq : w &&& q.mask = q.matchBits) : r = q := by
  obtain ⟨i, rfl, rfl⟩ := exists_encode_of_matches_row hr hwr
  obtain ⟨-, hmatch⟩ := opcodeRow_statement i
  exact ((hmatch q hq).mp hwq).symm

/-- The words of the commands are the words that match exactly one row (R83). -/
theorem exists_encode_iff_matches_one_row (w : Word) :
    (∃ i, w = encode i) ↔ ∃! r, r ∈ opcodeRows ∧ w &&& r.mask = r.matchBits := by
  constructor
  · rintro ⟨i, rfl⟩
    obtain ⟨hmem, hmatch⟩ := opcodeRow_statement i
    exact ⟨opcodeRowOf i, ⟨hmem, (hmatch _ hmem).mpr rfl⟩, fun r ⟨hr, hwr⟩ => (hmatch r hr).mp hwr⟩
  · rintro ⟨r, ⟨hr, hwr⟩, -⟩
    obtain ⟨i, hw, -⟩ := exists_encode_of_matches_row hr hwr
    exact ⟨i, hw⟩

/-- Every command, ABSORB_FINAL with each LEN (R82, R83). -/
def allCommands : List Instr :=
  .init :: .absorb :: .squeeze :: (List.finRange 32).map fun n => .absorbFinal (.ofFin n)

theorem mem_allCommands (i : Instr) : i ∈ allCommands := by
  cases i <;> simp [allCommands]

theorem nodup_allCommands : allCommands.Nodup := by decide

/-- Settles O2: the legal words are the commands' words, and every word that matches a row is a command's word. -/
theorem legalWordsAreTheTable : Obligations.LegalWordsAreTheTable := by
  unfold Obligations.LegalWordsAreTheTable
  simp only [exists_decode_iff_exists_encode]
  refine ⟨exists_encode_iff_matches_one_row, fun w r q hr hq => eq_of_matches_rows hr hq, exists_encode_iff,
    allCommands.map encode, nodup_allCommands.map encode_injective, by simp [allCommands], fun w => ?_⟩
  simp only [List.mem_map, mem_allCommands, true_and, eq_comm]

/-! ### Illegal words -/

/-- The illegal words by their fields (R84): the decoder's three tests, in terms of OP's value. -/
theorem exists_decode_error_iff (w : Word) : (∃ e, decode w = .error e) ↔
    (cmdOp w).toNat = 0 ∨ 5 ≤ (cmdOp w).toNat ∨ cmdRes w ≠ 0 ∨ (cmdLen w ≠ 0 ∧ (cmdOp w).toNat ≠ 3) := by
  unfold decode
  split_ifs with hres hfinal hop hlen hinit habsorb
  · exact iff_of_true ⟨_, rfl⟩ (.inr (.inr (.inl hres)))
  · exact iff_of_false nofun (by simp [not_not.mp hres, hfinal])
  · have hop' : (cmdOp w).toNat = 0 ∨ 5 ≤ (cmdOp w).toNat := by bv_omega
    exact iff_of_true ⟨_, rfl⟩ (hop'.imp_right .inl)
  · have hop' : (cmdOp w).toNat ≠ 3 := by bv_omega
    exact iff_of_true ⟨_, rfl⟩ (.inr (.inr (.inr ⟨hlen, hop'⟩)))
  · exact iff_of_false nofun (by simp [not_not.mp hres, not_not.mp hlen, hinit])
  · exact iff_of_false nofun (by simp [not_not.mp hres, not_not.mp hlen, habsorb])
  · have hsqueeze : cmdOp w = 0x4 := by_contra fun hne => hop ⟨hinit, habsorb, hne⟩
    exact iff_of_false nofun (by simp [not_not.mp hres, not_not.mp hlen, hsqueeze])

/-- Rejecting an illegal word changes ERR only: it takes the code R150 gives, unless it holds one already. -/
theorem rejectIllegal_eq (s : State) :
    rejectIllegal s = { s with err := if s.err ≠ 0 then s.err else if busy s then 2 else 3 } := by
  rcases rejectIllegal_cases s with ⟨hb, h⟩ | ⟨hb, h⟩ <;> rw [h, reject_eq, hb, ite_not] <;> rfl

/-- Settles O3: the decoder refuses a word by its fields alone, and a refused word is rejected. -/
theorem illegalWordOnlyRecordsError : Obligations.IllegalWordOnlyRecordsError := by
  unfold Obligations.IllegalWordOnlyRecordsError
  refine fun w => ⟨exists_decode_error_iff w, fun ⟨e, he⟩ s => ?_⟩
  rcases acceptCmd_cases w s with ⟨i, hi, -⟩ | ⟨-, -, h⟩
  · exact absurd (he.symm.trans hi) nofun
  · rw [h, rejectIllegal_eq]

end Sys2Proof

/-! SUPPORT. How much the generator answers: the length of the XOF's output and of its packing (spec R101 to R105). -/

namespace Sys2Proof

open Sys2Proof.Machine

namespace Machine

@[simp] theorem bytesOfLane_length (v : KeccakLane) : (bytesOfLane v).length = 8 := rfl

/-- A block of output is the rate: 17 lanes of eight bytes. -/
@[simp] theorem shakeOutput_length (a : KeccakState) : (shakeOutput a).length = shakeRate := by
  simp [shakeOutput, shakeRate]

@[simp] theorem shakeSqueeze_length (n : Nat) (a : KeccakState) : (shakeSqueeze n a).length = shakeRate * n := by
  induction n generalizing a with
  | zero => rfl
  | succ n ih => rw [shakeSqueeze, List.length_append, shakeOutput_length, ih, Nat.mul_succ, Nat.add_comm]

/-- The XOF answers as many bytes as it is asked for (R102): the blocks squeezed are never too few. -/
@[simp] theorem shake256_length (m : List Byte) (n : Nat) : (shake256 m n).length = n := by
  have henough : n ≤ shakeRate * (n / shakeRate + 1) := (Nat.lt_mul_div_succ n (by decide)).le
  simp only [shake256, List.length_take, shakeSqueeze_length, min_eq_left henough]

/-- Packing makes a word of every four bytes (R104), and drops a last group that is not full. -/
@[simp] theorem packStream_length (bs : List Byte) : (packStream bs).length = bs.length / 4 := by
  induction bs using packStream.induct with
  | case1 b0 b1 b2 b3 rest ih =>
    simp only [packStream, List.length_cons, ih]
    omega
  | case2 bs hshort =>
    have hlt : bs.length < 4 := by
      match bs, hshort with
      | [], _ | [_], _ | [_, _], _ | [_, _, _], _ => simp
      | b0 :: b1 :: b2 :: b3 :: rest, h => exact (h b0 b1 b2 b3 rest rfl).elim
    rw [packStream.eq_2 bs hshort, Nat.div_eq_of_lt hlt, List.length_nil]

/-- What `generateConstants` answers is the packed output of the XOF on the seed (R101 to R104). -/
theorem eq_packStream_of_generateConstants {seed : List Byte} {numRounds : Nat} {l : List Word}
    (h : generateConstants seed numRounds = some l) : l = packStream (shake256 seed (4 * (16 * numRounds))) := by
  unfold generateConstants at h
  split at h
  · exact (Option.some.inj h).symm
  · cases h

end Machine

/-- Settles O47: the XOF answers the 4 × 16 × num_rounds bytes asked for, and the packing makes one word of every four. -/
theorem constantCount : Obligations.ConstantCount := by
  unfold Obligations.ConstantCount
  intro seed n l h
  rw [eq_packStream_of_generateConstants h, packStream_length, shake256_length,
    Nat.mul_div_cancel_left _ (by decide)]

end Sys2Proof

/-! SUPPORT. The layers of the permutation, word by word (spec R122 to R126). -/

namespace Sys2Proof

open Sys2Proof.Machine Sys2Proof.Stated

/-- Within a vector, reading its list with a default is reading the vector. -/
theorem getD_toList {α : Type} {n i : Nat} (v : Vector α n) (d : α) (h : i < n) : v.toList.getD i d = v[i] := by
  rw [List.getD_eq_getElem _ _ (by simpa using h), Vector.getElem_toList]

@[simp] theorem xorWords_getElem (S T : Words 16) (i : Nat) (h : i < 16) : (xorWords S T)[i] = S[i] ^^^ T[i] := by
  simp [xorWords]

namespace Machine

/-! ### Rotation -/

/-- The model's rotation is the two shifts of R9. -/
theorem rotl_eq_rotlBits (x : Word) (n : BitVec 5) : rotl x n = rotlBits x n.toNat := by
  have hmod : n.toNat % 32 = n.toNat := Nat.mod_eq_of_lt n.isLt
  unfold rotl rotlBits
  rw [BitVec.rotateLeft_def, hmod]
  split
  case isTrue h => simp [h, BitVec.ushiftRight_eq_zero (Nat.le_refl 32)]
  case isFalse => rfl

@[simp] theorem rotl_by_zero (x : Word) : rotl x 0 = x := rotl_eq_rotlBits x 0

@[simp] theorem rotl_zero (n : BitVec 5) : rotl 0#32 n = 0#32 := by revert n; decide

@[simp] theorem rotl_ones (n : BitVec 5) : rotl 0xFFFFFFFF#32 n = 0xFFFFFFFF#32 := by revert n; decide

/-! ### BitMat -/

/-- The XOR of the words of `f` that `p` selects, over a list of indices. -/
def xorSelected (p : Fin 16 → Bool) (f : Fin 16 → Word) : List (Fin 16) → Word
  | []      => 0#32
  | k :: ks => (if p k then f k else 0#32) ^^^ xorSelected p f ks

/-- An XOR accumulated from the left is the start value XORed with the selected words. -/
theorem foldl_eq_xorSelected (p : Fin 16 → Bool) (f : Fin 16 → Word) (ks : List (Fin 16)) (t : Word) :
    ks.foldl (fun t k => if p k then t ^^^ f k else t) t = t ^^^ xorSelected p f ks := by
  induction ks generalizing t with
  | nil => simp [xorSelected]
  | cons k ks ih => rw [List.foldl_cons, ih, xorSelected]; split <;> simp [BitVec.xor_assoc]

/-- A bit of a selected XOR is the parity of that bit over the selected words. -/
theorem xorSelected_getLsbD (p : Fin 16 → Bool) (f : Fin 16 → Word) (ks : List (Fin 16)) (b : Nat) :
    (xorSelected p f ks).getLsbD b = decide ((ks.countP fun k => p k && (f k).getLsbD b) % 2 = 1) := by
  induction ks with
  | nil => simp [xorSelected]
  | cons k ks ih =>
    have hhead : (if p k then f k else 0#32).getLsbD b = (p k && (f k).getLsbD b) := by cases p k <;> simp
    rw [xorSelected, BitVec.getLsbD_xor, ih, hhead, List.countP_cons]
    cases p k && (f k).getLsbD b
    · simp
    · simp only [if_true, Bool.true_xor, ← decide_not, decide_eq_decide]; omega

theorem xorSelected_zero (p : Fin 16 → Bool) (ks : List (Fin 16)) : xorSelected p (fun _ => 0#32) ks = 0#32 := by
  induction ks with
  | nil => rfl
  | cons k ks ih => simp [xorSelected, ih]

theorem xorSelected_xor (p : Fin 16 → Bool) (f g : Fin 16 → Word) (ks : List (Fin 16)) :
    xorSelected p (fun k => f k ^^^ g k) ks = xorSelected p f ks ^^^ xorSelected p g ks := by
  induction ks with
  | nil => simp [xorSelected]
  | cons k ks ih =>
    have hhead : (if p k then f k ^^^ g k else 0#32) = (if p k then f k else 0#32) ^^^ (if p k then g k else 0#32) := by
      cases p k <;> simp
    rw [xorSelected, xorSelected, xorSelected, ih, hhead]
    ac_rfl

/-- Where only word k is not 0, a selected XOR is that word or 0: k occurs at most once. -/
theorem xorSelected_single (p : Fin 16 → Bool) (k : Fin 16) (e : Word) {ks : List (Fin 16)} (hks : ks.Nodup) :
    xorSelected p (fun i => if i = k then e else 0#32) ks = if k ∈ ks ∧ p k then e else 0#32 := by
  induction ks with
  | nil => simp [xorSelected]
  | cons i ks ih =>
    obtain ⟨hi, hks⟩ := List.nodup_cons.mp hks
    rw [xorSelected, ih hks]
    by_cases hik : i = k
    · subst hik; simp [hi]
    · simp [hik, Ne.symm hik]

/-- A word of BitMat is the XOR of the words that the matrix selects for it (R123). -/
theorem bitMat_getElem (m : BitVec 256) (S : Words 16) (j : Nat) (h : j < 16) :
    (bitMat m S)[j] = xorSelected (fun k => m.getLsbD (16 * k.val + j)) (fun k => S[k.val]) (List.finRange 16) := by
  rw [bitMat, Vector.getElem_ofFn, foldl_eq_xorSelected]
  exact BitVec.zero_xor

@[simp] theorem bitMat_zero (m : BitVec 256) : bitMat m (Vector.replicate 16 0#32) = Vector.replicate 16 0#32 := by
  ext j hj
  simp only [bitMat_getElem, Vector.getElem_replicate, xorSelected_zero]

theorem bitMat_xorWords (m : BitVec 256) (S T : Words 16) :
    bitMat m (xorWords S T) = xorWords (bitMat m S) (bitMat m T) := by
  ext j hj
  simp only [bitMat_getElem, xorWords_getElem, xorSelected_xor]

/-- A state whose one word is e gives e in the words that row k of the matrix names, and 0 elsewhere (R123). -/
theorem bitMat_single_getElem (m : BitVec 256) (k : Fin 16) (e : Word) (j : Nat) (h : j < 16) :
    (bitMat m (Vector.ofFn fun i => if i = k then e else 0#32))[j] =
      if m.getLsbD (16 * k.val + j) then e else 0#32 := by
  simp [bitMat_getElem, xorSelected_single _ _ _ (List.nodup_finRange 16)]

/-! ### Circ -/

/-- Two equal amounts cancel (R124). -/
@[simp] theorem circWord_equal_amounts (x : Word) (a d : BitVec 5) : circWord x a a d = rotl x d := by
  simp [circWord]

@[simp] theorem circWord_zero (a b c : BitVec 5) : circWord 0#32 a b c = 0#32 := by
  simp [circWord]

@[simp] theorem circWord_ones (a b c : BitVec 5) : circWord 0xFFFFFFFF#32 a b c = 0xFFFFFFFF#32 := by
  simp [circWord]

theorem circ_getElem (coef : Vector (BitVec 5) 48) (S : Words 16) (i : Nat) (h : i < 16) :
    (circ coef S)[i] = circWord S[i] coef[3 * i] coef[3 * i + 1] coef[3 * i + 2] := by
  rw [circ, Vector.getElem_ofFn]

@[simp] theorem circ_zero (coef : Vector (BitVec 5) 48) :
    circ coef (Vector.replicate 16 0#32) = Vector.replicate 16 0#32 := by
  ext i hi
  simp only [circ_getElem, Vector.getElem_replicate, circWord_zero]

/-! ### Inject -/

theorem inject_getElem (rc : Words 688) (r : Fin 43) (S : Words 16) (i : Nat) (h : i < 16) :
    (inject rc r S)[i] = S[i] ^^^ rc[16 * r.val + i] := by
  rw [inject, Vector.getElem_ofFn]

/-! ### ARX -/

theorem arx_getElem_fst (S : Words 16) (i : Nat) (h : i < 8) :
    (arx S)[2 * i] = arxFst S[2 * i] S[2 * i + 1] := by
  simp [arx]

theorem arx_getElem_snd (S : Words 16) (i : Nat) (h : i < 8) :
    (arx S)[2 * i + 1] = arxSnd S[2 * i] S[2 * i + 1] := by
  have hdiv : (2 * i + 1) / 2 = i := by omega
  simp [arx, hdiv]

end Machine

/-- Settles O40: each word is the XOR of the words its column selects, so its bits are parities and it is
linear. -/
theorem bitMatIsLinear : Obligations.BitMatIsLinear := by
  unfold Obligations.BitMatIsLinear
  refine fun m => ⟨fun S j b => ?_, bitMat_zero m, bitMat_xorWords m,
    fun k j e => bitMat_single_getElem m k e j j.isLt⟩
  rw [bitMat_getElem, xorSelected_getLsbD]

/-- Settles O41: the model's rotation is R9's, and it leaves 0 and all ones as they are. -/
theorem circRotatesEachWord : Obligations.CircRotatesEachWord := by
  unfold Obligations.CircRotatesEachWord
  refine fun coef => ⟨fun S i => ?_, circ_zero coef, fun S i h => ?_, fun x a d => ?_, fun x => ?_⟩
  · rw [circ_getElem, circWord, getD_toList, getD_toList, getD_toList, rotl_eq_rotlBits, rotl_eq_rotlBits,
      rotl_eq_rotlBits]
  · rw [circ_getElem, h]
    exact circWord_ones _ _ _
  · rw [circWord_equal_amounts, rotl_eq_rotlBits]
  · rw [circWord_equal_amounts, rotl_by_zero]

/-- Settles O42: the constant's index is always within the table. -/
theorem injectAddsTheSlice : Obligations.InjectAddsTheSlice := by
  unfold Obligations.InjectAddsTheSlice
  intro rc r S i
  rw [inject_getElem, getD_toList]

/-- Settles O43: words 2i and 2i+1 are the two words of pair i, and the second takes in the first one's new value. -/
theorem arxOnPairs : Obligations.ArxOnPairs := by
  unfold Obligations.ArxOnPairs
  intro S i
  rw [arx_getElem_snd S i i.isLt, arx_getElem_fst S i i.isLt, arxSnd, arxFst, rotl_eq_rotlBits, rotl_eq_rotlBits]
  exact ⟨rfl, rfl⟩

end Sys2Proof

/-! SUPPORT. Acceptance of commands in the order of R150's tests, and the phase table (spec R150, R151, R161). -/

namespace Sys2Proof

open Sys2Proof.Machine Sys2Proof.Stated

namespace Machine

/-- BUSY = 1 means that a permutation runs or the table is not ready (R26). -/
theorem busy_eq_true {s : State} : busy s = true ↔ s.permActive = true ∨ s.rcReady = false := by
  simp [busy]

theorem mayAbsorb_eq_true {p : Phase} : mayAbsorb p = true ↔ p = .fresh ∨ p = .absorbing := by
  cases p <;> decide

theorem maySqueeze_eq_true {p : Phase} : maySqueeze p = true ↔ p = .ready := by
  cases p <;> decide

/-- `reject(code)` of the model is R211's. -/
theorem reject_eq_recordErr (code : BitVec 4) (s : State) : reject code s = recordErr code s := reject_eq s code

/-- Acceptance of a legal command other than INIT, as R150's tests in order: busy, lock, phase. -/
theorem accept_eq (allowed : Phase → Bool) (effect : State → State) (s : State) :
    accept allowed effect s = .next (
      if busy s = true then recordErr 2 s
      else if s.err ≠ 0 then s
      else if allowed s.phase = true then effect s
      else recordErr 1 s) := by
  rcases accept_cases allowed effect s with ⟨hb, h⟩ | ⟨hb, he, h⟩ | ⟨hb, he, ha, h⟩ | ⟨hb, he, ha, h⟩ <;> rw [h]
  · rw [if_pos hb, reject_eq_recordErr]; rfl
  · rw [if_neg (by simp [hb]), if_pos he]
  · rw [if_neg (by simp [hb]), if_neg (not_not.mpr he), if_neg (by simp [ha]), reject_eq_recordErr]; rfl
  · rw [if_neg (by simp [hb]), if_neg (not_not.mpr he), if_pos ha]

/-- Acceptance of INIT: R150 tests BUSY alone. -/
theorem acceptInit_eq (effect : State → State) (s : State) :
    acceptInit effect s = .next (if busy s = true then recordErr 2 s else effect s) := by
  rcases acceptInit_cases effect s with ⟨hb, h⟩ | ⟨hb, h⟩ <;> rw [h]
  · rw [if_pos hb, reject_eq_recordErr]; rfl
  · rw [if_neg (by simp [hb])]

/-- An illegal word, as R150's tests in order: busy, then the word. -/
theorem rejectIllegal_eq_recordErr (s : State) :
    rejectIllegal s = if busy s = true then recordErr 2 s else recordErr 3 s := by
  rcases rejectIllegal_cases s with ⟨hb, h⟩ | ⟨hb, h⟩ <;> rw [h, reject_eq_recordErr]
  · rw [if_pos hb]; rfl
  · rw [if_neg (by simp [hb])]; rfl

end Machine

/-- R83's test of a word, by the rows of the table, holds for the commands' words alone. -/
theorem legalWord_eq_true_iff {w : Word} : legalWord w = true ↔ ∃ i, w = encode i := by
  constructor
  · intro h
    have hone : (opcodeRows.filter fun r => w &&& r.mask == r.matchBits).length = 1 := beq_iff_eq.mp h
    obtain ⟨r, hr⟩ := List.length_eq_one_iff.mp hone
    obtain ⟨hrow, hmatch⟩ := List.mem_filter.mp (hr ▸ List.mem_singleton_self r)
    obtain ⟨i, hi, -⟩ := exists_encode_of_matches_row hrow (beq_iff_eq.mp hmatch)
    exact ⟨i, hi⟩
  · rintro ⟨i, rfl⟩
    cases i with
    | init => decide
    | absorb => decide
    | absorbFinal len => revert len; decide
    | squeeze => decide

@[simp] theorem legalWord_encode (i : Instr) : legalWord (encode i) = true := legalWord_eq_true_iff.mpr ⟨i, rfl⟩

/-- A word the decoder refuses fails R83's test. -/
theorem legalWord_of_decode_error {w : Word} {e : IllegalCmd} (h : decode w = .error e) : legalWord w = false := by
  refine Bool.eq_false_iff.mpr fun hw => ?_
  obtain ⟨i, rfl⟩ := legalWord_eq_true_iff.mp hw
  exact absurd ((decode_encode i).symm.trans h) nofun

/-- Settles O9: an illegal word fails R83's test, and a command's word passes it and leads, by its OP, to the command's
own tests. -/
theorem acceptCmdTestsInOrder : Obligations.AcceptCmdTestsInOrder := by
  unfold Obligations.AcceptCmdTestsInOrder
  intro w s
  simp only [← busy_eq_true, ← mayAbsorb_eq_true, ← maySqueeze_eq_true]
  rcases acceptCmd_cases w s with ⟨i, hd, h⟩ | ⟨e, hd, h⟩ <;> rw [h]
  · obtain rfl := eq_encode_of_decode hd
    rw [legalWord_encode]
    cases i with
    | init => exact acceptInit_eq doInit s
    | absorb => exact accept_eq mayAbsorb doAbsorb s
    | absorbFinal len =>
      obtain ⟨-, hlen, hop⟩ := cmdFields_encode_absorbFinal len
      unfold cmdLen at hlen
      unfold cmdOp at hop
      rw [hlen, hop]
      exact accept_eq mayAbsorb (doAbsorbFinal len) s
    | squeeze => exact accept_eq maySqueeze doSqueeze s
  · rw [rejectIllegal_eq_recordErr, legalWord_of_decode_error hd, if_pos rfl]

/-! ### The phase table -/

section

variable {s : State} {allowed : Phase → Bool} {effect : State → State}

/-- In a phase that allows it, a command that neither BUSY nor the lock stops has its effect (R150). -/
theorem accept_of_allowed (hb : busy s = false) (he : s.err = 0) (ha : allowed s.phase = true) :
    accept allowed effect s = .next (effect s) := by
  simp [accept_eq, hb, he, ha]

/-- Out of phase, it records ERR_INVALID_STATE and does nothing else (R150, R211). -/
theorem accept_of_not_allowed (hb : busy s = false) (he : s.err = 0) (ha : allowed s.phase = false) :
    accept allowed effect s = .next { s with err := 1 } := by
  simp [accept_eq, hb, he, ha, recordErr]

/-- Where the phase allows a command whose effect leaves phase `q` and keeps ERR, acceptance ends in the table's entry. -/
theorem accept_of_entry {p q : Phase} (hb : busy s = false) (he : s.err = 0) (hphase : (effect s).phase = q)
    (herr : (effect s).err = s.err) (h : (if allowed s.phase then some q else none) = some p) :
    ∃ t, accept allowed effect s = .next t ∧ t.phase = p ∧ t.err = 0 := by
  obtain ⟨ha, hq⟩ := Option.ite_none_right_eq_some.mp h
  exact ⟨effect s, accept_of_allowed hb he ha, hphase.trans (Option.some_inj.mp hq), herr.trans he⟩

end

theorem phaseAfter_init (p : Phase) : phaseAfter p .init = some .fresh := by cases p <;> rfl

/-- The table's rows of the absorb commands and of SQUEEZE, by the phases the model allows them (R151). -/
theorem phaseAfter_absorb (p : Phase) : phaseAfter p .absorb = if mayAbsorb p then some .absorbing else none := by
  cases p <;> rfl

theorem phaseAfter_absorbFinal (p : Phase) (len : BitVec 5) :
    phaseAfter p (.absorbFinal len) = if mayAbsorb p then some .ready else none := by
  cases p <;> rfl

theorem phaseAfter_squeeze (p : Phase) : phaseAfter p .squeeze = if maySqueeze p then some .squeezed else none := by
  cases p <;> rfl

/-- A command the table allows leaves the phase of the table and no error (R151). -/
theorem exec_of_phaseAfter_some {i : Instr} {s : State} {p : Phase} (hb : busy s = false)
    (he : i = .init ∨ s.err = 0) (h : phaseAfter s.phase i = some p) :
    ∃ t, exec i s = .next t ∧ t.phase = p ∧ t.err = 0 := by
  cases i with
  | init =>
    have hx : exec .init s = .next (doInit s) := (acceptInit_eq doInit s).trans (by rw [hb]; rfl)
    rw [phaseAfter_init, Option.some_inj] at h
    exact ⟨doInit s, hx, h, rfl⟩
  | absorb => exact accept_of_entry hb (he.resolve_left nofun) rfl rfl (phaseAfter_absorb s.phase ▸ h)
  | absorbFinal len =>
    exact accept_of_entry hb (he.resolve_left nofun) rfl rfl (phaseAfter_absorbFinal s.phase len ▸ h)
  | squeeze => exact accept_of_entry hb (he.resolve_left nofun) rfl rfl (phaseAfter_squeeze s.phase ▸ h)

/-- A command out of phase records ERR_INVALID_STATE and does nothing else (R151, R211). -/
theorem exec_of_phaseAfter_none {i : Instr} {s : State} (hb : busy s = false) (he : s.err = 0)
    (h : phaseAfter s.phase i = none) : exec i s = .next { s with err := 1 } := by
  cases i with
  | init => rw [phaseAfter_init] at h; cases h
  | absorb => exact accept_of_not_allowed hb he (by simpa [phaseAfter_absorb] using h)
  | absorbFinal len => exact accept_of_not_allowed hb he (by simpa [phaseAfter_absorbFinal] using h)
  | squeeze => exact accept_of_not_allowed hb he (by simpa [phaseAfter_squeeze] using h)

/-- INIT is out of phase nowhere, so a command that is out of phase is another one (R151). -/
theorem ne_init_of_phaseAfter_none {i : Instr} {p : Phase} (h : phaseAfter p i = none) : i ≠ .init := by
  rintro rfl
  rw [phaseAfter_init] at h
  cases h

/-- From SQUEEZED the table has INIT's row alone (R151, R161). -/
theorem phaseAfter_squeezed_eq_none {i : Instr} : phaseAfter .squeezed i = none ↔ i ≠ .init := by
  cases i <;> simp [phaseAfter]

/-- Settles O15: a row of the table is acceptance, and a command without one is out of phase and not INIT. -/
theorem phaseTable : Obligations.PhaseTable := by
  unfold Obligations.PhaseTable
  intro i s hb he
  split
  next p hp => exact exec_of_phaseAfter_some hb he hp
  next hp => exact exec_of_phaseAfter_none hb (he.resolve_left (ne_init_of_phaseAfter_none hp)) hp

/-- Settles O20: from SQUEEZED the table rejects all but INIT, and a step that changes PHASE is an accepted command of the
table or a reset. -/
theorem squeezedIsTerminal : Obligations.SqueezedIsTerminal := by
  unfold Obligations.SqueezedIsTerminal
  constructor
  · intro i s hi hp hb he
    exact exec_of_phaseAfter_none hb he (hp ▸ phaseAfter_squeezed_eq_none.mpr hi)
  · intro s t h hp hleft
    rcases phaseChangesOnlyByCommandOrReset s t h (hp ▸ hleft) with ⟨i, ⟨hpresents, hb, -⟩, hnew⟩ | ⟨hreset, -⟩
    · obtain rfl : i = .init := by
        by_contra hne
        rw [hp, phaseAfter_squeezed_eq_none.mpr hne] at hnew
        cases hnew
      exact .inl ⟨hpresents, hb⟩
    · exact .inr hreset

end Sys2Proof

/-! SUPPORT. The padding (spec R156, R157). -/

namespace Sys2Proof

open Sys2Proof.Machine

/-- The padded message is the whole blocks of R157, the last one full. -/
theorem Machine.pad_length (M : List Byte) : (pad M).length = 32 * blockCount M := by
  simp only [pad, blockCount, List.length_append, List.length_singleton, List.length_replicate]
  omega

/-- Settles O56: the zeros are the 31 - len(M) mod 32 that the model writes. -/
theorem paddingFillsTheLastBlock : Obligations.PaddingFillsTheLastBlock := by
  unfold Obligations.PaddingFillsTheLastBlock
  intro M
  have hz : 31 - M.length % 32 < 32 := by omega
  have hceil : (M.length + 1 + 31) / 32 = M.length / 32 + 1 := by omega
  exact ⟨⟨31 - M.length % 32, hz, rfl⟩, pad_length M, hceil⟩

end Sys2Proof

/-! SUPPORT. What each register reads as, and what a write to it leaves (spec R181 to R192). -/

namespace Sys2Proof

open Sys2Proof.Machine Sys2Proof.Stated

namespace Machine

/-- A 32-bit read at a register's offset answers the register's word (R180). -/
@[simp] theorem regRead_regOffset (r : Reg) (s : State) : regRead .w32 (regOffset r) s = some (readReg r s) :=
  regRead_of_reg (regOfAccess_regOffset r) s

/-- A 32-bit write at a register's offset is the register's write (R180). -/
@[simp] theorem regWrite_regOffset (r : Reg) (v : Word) (s : State) :
    regWrite .w32 (regOffset r) v s = writeReg r v s :=
  regWrite_of_reg (regOfAccess_regOffset r) v s

/-! ### STATUS -/

/-- PHASE's code, as a field of a word (R20). -/
theorem setWidth_phaseCode (p : Phase) : (phaseCode p).setWidth 32 = phaseBits p := by
  cases p <;> rfl

/-- BUSY, as a field of a word (R26). -/
theorem setWidth_busy (s : State) :
    (BitVec.ofBool (busy s)).setWidth 32 = if s.permActive = true ∨ s.rcReady = false then 1 else 0 := by
  simp only [← busy_eq_true]
  cases busy s <;> rfl

/-- RC_READY, as a field of a word (R27). -/
theorem setWidth_ofBool (b : Bool) : (BitVec.ofBool b).setWidth 32 = if b then (1 : Word) else (0 : Word) := by
  cases b <;> rfl

/-- The STATUS word of R33 is R183's: each field joined on the right shifts the ones before it to their places. -/
theorem statusWord_eq_statusBits (s : State) : statusWord s = statusBits s := by
  have hreserved : (0#16).setWidth 32 <<< (8 + 4 + 2 + 1 + 1) = 0#32 := by decide
  rw [← BitVec.setWidth_eq (statusWord s)]
  unfold statusWord statusBits
  simp only [BitVec.setWidth_append_eq_shiftLeft_setWidth_or, BitVec.shiftLeft_or_distrib, ← BitVec.shiftLeft_add,
    setWidth_phaseCode, setWidth_ofBool s.rcReady, setWidth_busy, hreserved, BitVec.zero_or]

/-! ### RC_INDEX and DIN -/

/-- The low 12 bits of a word, zero-extended, are the word under the mask 0xFFF. -/
theorem setWidth_extractLsb'_twelve (v : Word) : (v.extractLsb' 0 12).setWidth 32 = v &&& 0xFFF := by
  have hmask : (v &&& 0xFFF).toNat = v.toNat % 2 ^ 12 := Nat.and_two_pow_sub_one_eq_mod v.toNat 12
  apply BitVec.eq_of_toNat_eq
  rw [hmask, BitVec.toNat_setWidth, BitVec.extractLsb'_toNat]
  omega

/-- A DIN word after a write to DINj (R187, R188). -/
theorem readReg_din_writeDin (j k : Fin 8) (v : Word) (s : State) :
    readReg (.din k) (writeDin j v s) = if k = j then v else s.din[k.val] := by
  rcases eq_or_ne k j with rfl | hne
  · rw [if_pos rfl]
    exact Vector.getElem_set_self k.isLt
  · rw [if_neg hne]
    exact Vector.getElem_set_ne j.isLt k.isLt (Fin.val_ne_of_ne hne.symm)

/-! ### Which writes change the block -/

/-- The DIN registers' offsets are writable (R192). -/
theorem writable_regOffset_din (j : Fin 8) : writable (regOffset (.din j)) := by
  unfold writable
  revert j
  decide

/-- A host's turn that completes and writes no writable register leaves the block as it is (R192): every other thing it
can do writes CMD, a DIN register or RC_INDEX. -/
theorem sameBlock_of_hostTurn {s t : State} (h : hostTurn s = .next t)
    (hw : ∀ width off v rest, s.host = .wr width off v :: rest → ¬ writable off) : sameBlock s t := by
  rcases hostTurn_next_cases h with ⟨i, rest, hs, -⟩ | ⟨w, -, rest, hs, -, -⟩ | ⟨j, v, rest, hs, -⟩ |
    ⟨v, rest, hs, -⟩ | hsame
  · exact absurd (.inl rfl) (hw _ _ _ _ hs)
  · exact absurd (.inl rfl) (hw _ _ _ _ hs)
  · exact absurd (writable_regOffset_din j) (hw _ _ _ _ hs)
  · exact absurd (.inr (.inr rfl)) (hw _ _ _ _ hs)
  · exact hsame

end Machine

/-- Settles O28: STATUS is at 0x08, and its word joined from R33's fields is R183's by shifts. -/
theorem statusReadsItsFields : Obligations.StatusReadsItsFields := by
  unfold Obligations.StatusReadsItsFields
  intro s
  have hread : regRead .w32 0x08 s = some (statusWord s) := regRead_regOffset .status s
  rw [hread, statusWord_eq_statusBits]

/-- Settles O31: the register at 0x50 holds the write's low 12 bits, and its read zero-extends them. -/
theorem rcIndexWriteAndRead : Obligations.RcIndexWriteAndRead := by
  unfold Obligations.RcIndexWriteAndRead
  intro s v
  have hread : regRead .w32 0x50 (writeRcIndex v s) = some ((v.extractLsb' 0 12).setWidth 32) :=
    regRead_regOffset .rcIndex (writeRcIndex v s)
  refine ⟨writeRcIndex v s, regWrite_regOffset .rcIndex v s, rfl, ?_⟩
  rw [hread, setWidth_extractLsb'_twelve]

/-- Settles O32: a write to DINj tests nothing, and sets one word of the vector that the DIN registers read. -/
theorem dinWriteAndRead : Obligations.DinWriteAndRead := by
  unfold Obligations.DinWriteAndRead
  intro s j v
  refine ⟨writeDin j v s, regWrite_regOffset (.din j) v s, rfl, fun k => ?_⟩
  have hread := regRead_regOffset (.din k) (writeDin j v s)
  rwa [readReg_din_writeDin] at hread

/-- Settles O34: the step is a host's turn, in which only a writable register's write changes the block. -/
theorem readsAndIgnoredWritesKeepTheBlock : Obligations.ReadsAndIgnoredWritesKeepTheBlock := by
  unfold Obligations.ReadsAndIgnoredWritesKeepTheBlock
  intro s t h hturn hw
  obtain ⟨ts, hstep⟩ := step_eq_agentTurn s
  rw [hstep, hturn] at h
  exact sameBlock_of_hostTurn (s := { s with turns := ts }) h hw

/-- Settles O27: ID, PARAM and CMD are at 0x00, 0x04 and 0x0C, and their words read no field of the state. -/
theorem constantRegistersRead : Obligations.ConstantRegistersRead := by
  unfold Obligations.ConstantRegistersRead
  intro s
  have hparam : paramWord = 0x1020202B := by decide
  exact ⟨regRead_regOffset .id s, hparam ▸ regRead_regOffset .param s, regRead_regOffset .cmd s⟩

end Sys2Proof

/-! SUPPORT. Which steps end the error lock (spec R211, R212, R217). -/

namespace Sys2Proof

open Sys2Proof.Machine Sys2Proof.Stated

namespace Machine

/-- While locked, `reject` keeps the first code, and so the whole state (R211). -/
theorem reject_of_locked {s : State} (he : s.err ≠ 0) (code : BitVec 4) : reject code s = s := if_neg he

/-- While locked, an illegal word changes nothing: the first code stays (R211). -/
theorem rejectIllegal_of_locked {s : State} (he : s.err ≠ 0) : rejectIllegal s = s := by
  rcases rejectIllegal_cases s with ⟨-, h⟩ | ⟨-, h⟩ <;> rw [h, reject_of_locked he]

/-- While locked, a command changes nothing, or it is an INIT that is accepted (R150, R212). -/
theorem exec_of_locked {s : State} (he : s.err ≠ 0) (i : Instr) :
    exec i s = .next s ∨ (busy s = false ∧ i = .init ∧ exec i s = .next (doInit s)) := by
  rcases exec_cases i s with ⟨-, h⟩ | ⟨-, -, -, h⟩ | ⟨-, he0, -⟩ | hinit | ⟨-, he0, -⟩ | ⟨-, he0, -⟩ | ⟨-, he0, -⟩
  · rw [reject_of_locked he] at h; exact .inl h
  · exact .inl h
  · exact absurd he0 he
  · exact .inr hinit
  all_goals exact absurd he0 he

/-- A host's turn that changes ERR while locked is an accepted INIT (R212, R217). -/
theorem init_of_hostTurn_err {s t : State} (h : hostTurn s = .next t) (he : s.err ≠ 0) (hne : t.err ≠ s.err) :
    ∃ rest, s.host = .wr .w32 0x0C (encode .init) :: rest ∧ busy s = false ∧ t = doInit { s with host := rest } := by
  rcases hostTurn_next_cases h with ⟨i, rest, hs, hx⟩ | ⟨-, -, rest, -, -, rfl⟩ | ⟨j, v, rest, -, rfl⟩ |
    ⟨v, rest, -, rfl⟩ | hsame
  · rcases exec_of_locked (s := { s with host := rest }) he i with hi | ⟨hb, rfl, hi⟩ <;> rw [hi] at hx <;> cases hx
    · exact absurd rfl hne
    · exact ⟨rest, hs, hb, rfl⟩
  · exact absurd (congrArg State.err (rejectIllegal_of_locked (s := { s with host := rest }) he)) hne
  · exact absurd rfl hne
  · exact absurd rfl hne
  · exact absurd (congrArg State.err hsame) hne

/-- The permutation engine writes S, PERM_ACTIVE and ROUND alone (R129). -/
theorem permTurn_frame {s t : State} (h : permTurn s = .next t) :
    t = { s with S := t.S, permActive := t.permActive, round := t.round } := by
  rw [permTurn_eq] at h
  split at h
  · rcases permRound_cases s with ⟨hlt, -, hr⟩ | ⟨hlt, -, hr⟩ | ⟨-, hr⟩ <;> rw [hr] at h <;> cases h <;> rfl
  · cases h; rfl

/-- The constant generator writes RC and RC_READY alone (R108). -/
theorem genTurn_frame {s t : State} (h : genTurn s = .next t) : t = { s with rc := t.rc, rcReady := t.rcReady } := by
  rw [genTurn_eq] at h
  cases h
  split <;> rfl

end Machine

/-- Settles O18, by the agent whose turn the step is: the engines leave ERR alone, the host changes it while locked only
by an INIT that is accepted, and reset clears it. -/
theorem lockLeftOnlyByInitOrReset : Obligations.LockLeftOnlyByInitOrReset := by
  unfold Obligations.LockLeftOnlyByInitOrReset
  intro s t h he hne
  obtain ⟨ts, hstep⟩ := step_eq_agentTurn s
  rw [hstep] at h
  cases hturn : turnOf s <;> rw [hturn] at h
  case host =>
    obtain ⟨rest, hs, hb, rfl⟩ := init_of_hostTurn_err h he hne
    exact ⟨.inl ⟨⟨hturn, rest, hs⟩, hb⟩, rfl, rfl, rfl, rfl⟩
  case permEngine => exact absurd (congrArg State.err (permTurn_frame h)) hne
  case generator => exact absurd (congrArg State.err (genTurn_frame h)) hne
  case resetLine => cases h; exact ⟨.inr rfl, rfl, rfl, rfl, rfl⟩

end Sys2Proof

/-! SUPPORT. The reset event (spec R240). -/

namespace Sys2Proof

open Sys2Proof.Machine Sys2Proof.Stated

namespace Machine

/-- The step is the first named agent's turn, with the turns after it (R62). -/
theorem step_of_turns_cons {s : State} {a : Agent} {ts : List Agent} (h : s.turns = a :: ts) :
    step s = agentTurn a { s with turns := ts } := by
  simp only [step, nextTurn, h]

/-- Before GEN, RC_DATA reads 0, whatever RC_INDEX holds (R28, R190). -/
theorem regRead_rcData_of_not_rcReady {s : State} (h : s.rcReady = false) : regRead .w32 0x54 s = some 0 := by
  have hread : regRead .w32 0x54 s = some (rcDataWord s) := regRead_regOffset .rcData s
  rw [hread, rcDataWord_eq_zero (.inl h)]

end Machine

/-- Settles O49: the reset line's turn is the reset event, which clears RC_READY, and RC_DATA then reads 0 at every
index. -/
theorem resetEvent : Obligations.ResetEvent := by
  unfold Obligations.ResetEvent
  intro s ts hturns
  have hstep : step s = .next (resetBlock { s with turns := ts }) := step_of_turns_cons hturns
  have hready : (resetBlock { s with turns := ts }).rcReady = false := resetBlock_rcReady _
  exact ⟨_, hstep, resetBlock_S _, resetBlock_phase _, resetBlock_err _, resetBlock_permActive _, resetBlock_round _,
    hready, resetBlock_din _, resetBlock_dout _, resetBlock_rcIndex _, fun _ => regRead_rcData_of_not_rcReady hready⟩

end Sys2Proof

/-! SUPPORT. The decoder and the assembler against the encoder (spec R80 to R87). -/

namespace Sys2Proof

open Sys2Proof.Machine Sys2Proof.Stated

/-- Settles O1: a command's word decodes to it, and the decoder's tests of the three fields leave no other word. -/
theorem decodeInvertsEncode : Obligations.DecodeInvertsEncode := by
  unfold Obligations.DecodeInvertsEncode
  exact fun w i => ⟨eq_encode_of_decode, fun h => h ▸ decode_encode i⟩

/-- Settles O4: the legal words are the commands' own, and R84's fields tell that the others are illegal. -/
theorem specWordsDecode : Obligations.SpecWordsDecode := by
  unfold Obligations.SpecWordsDecode
  exact ⟨decode_encode .init, decode_encode .absorb, decode_encode (.absorbFinal 0), decode_encode (.absorbFinal 1),
    decode_encode (.absorbFinal 16), decode_encode (.absorbFinal 31), decode_encode .squeeze,
    List.forall_iff_forall_mem.mp (by decide)⟩

/-- A LEN in range is written into ABSORB_FINAL's word as the number it is (R87). -/
theorem encode_absorbFinal_ofNat {n : Nat} (h : n ≤ 31) :
    encode (.absorbFinal (BitVec.ofNat 5 n)) = 0x3 ||| (BitVec.ofNat 32 n <<< 4) := by
  have hlen : (BitVec.ofNat 5 n).setWidth 32 = BitVec.ofNat 32 n := by
    apply BitVec.eq_of_toNat_eq
    simp only [BitVec.toNat_setWidth, BitVec.toNat_ofNat]
    omega
  rw [encode, hlen]

/-- The one operand an assembler tests is ABSORB_FINAL's (R87). -/
theorem assemble_absorbFinal (n : Nat) : assemble ⟨.absorbFinal, some n⟩ =
    if n ≤ 31 then some (encode (.absorbFinal (BitVec.ofNat 5 n))) else none := by
  by_cases h : n ≤ 31 <;> simp [assemble, asmInstr, AsmLine.wf, h]

/-- Settles O5: only ABSORB_FINAL's line has a number to test, and its word carries that number. -/
theorem assemblerWordsAndRefusals : Obligations.AssemblerWordsAndRefusals := by
  unfold Obligations.AssemblerWordsAndRefusals
  refine ⟨rfl, rfl, rfl, fun n h => ?_, fun n h => ?_, rfl, fun m n hm => ?_⟩
  · rw [assemble_absorbFinal, if_pos h, encode_absorbFinal_ofNat h]
  · rw [assemble_absorbFinal, if_neg (Nat.not_le.mpr h)]
  · cases m with
    | absorbFinal => exact absurd rfl hm
    | init | absorb | squeeze => rfl

end Sys2Proof

/-! SUPPORT. The host's steps (spec R58, R88, R185 to R191). -/

namespace Sys2Proof

open Sys2Proof.Machine Sys2Proof.Stated

namespace Machine

/-- With no turns named, the step is the turn of the agent the default order names (R249, log entry 3). -/
theorem step_of_turns_nil {s : State} (h : s.turns = []) : step s = agentTurn (defaultAgent s) s := by
  simp only [step, nextTurn, h]

/-- In the default order the host's turn comes when no engine step is enabled (R249, log entry 3). -/
theorem step_of_idle {s : State} (ht : s.turns = []) (hb : busy s = false) : step s = hostTurn s := by
  obtain ⟨ha, hr⟩ := busy_eq_false.mp hb
  simp [step_of_turns_nil ht, defaultAgent, ha, hr, agentTurn]

/-- A WR line is the register write it carries (R88). -/
theorem hostTurn_wr {s : State} {width : Width} {off : Offset} {v : Word} {rest : List HostLine}
    (h : s.host = .wr width off v :: rest) : hostTurn s = regWrite width off v { s with host := rest } := by
  simp only [hostTurn, h]

/-- A RD line delivers the word it reads (R88). -/
theorem hostTurn_rd {s : State} {width : Width} {off : Offset} {v : Word} {rest : List HostLine}
    (h : s.host = .rd width off :: rest) (hv : regRead width off s = some v) :
    hostTurn s = .next { s with host := rest, reads := v :: s.reads } := by
  simp only [hostTurn, h, hv]

/-- A POLL line is done once the word it reads answers it (R88). -/
theorem hostTurn_poll {s : State} {off : Offset} {mask value v : Word} {rest : List HostLine}
    (h : s.host = .poll off mask value :: rest) (hv : regRead .w32 off s = some v) :
    hostTurn s = .next (if v &&& mask = value then { s with host := rest } else s) := by
  simp only [hostTurn, h, hv]

/-- A 32-bit write to CMD runs `AcceptCmd` on its word (R185). -/
theorem regWrite_cmd (w : Word) (s : State) : regWrite .w32 0x0C w s = acceptCmd w s := regWrite_regOffset .cmd w s

theorem acceptCmd_of_decode {w : Word} {i : Instr} (h : decode w = .ok i) (s : State) :
    acceptCmd w s = exec i s := by
  simp only [acceptCmd, h]

/-- A lane of a word, as the table's bytes give it (R52). -/
theorem tableByte_toNat (w : Word) (k : Nat) : tableByte 32 w.toNat k = w.extractLsb' (8 * k) 8 := by
  apply BitVec.eq_of_toNat_eq
  have hpow : 256 ^ k = 2 ^ (8 * k) := by rw [Nat.pow_mul]
  rw [tableByte, BitVec.toNat_ofNat, BitVec.extractLsb'_toNat, Nat.shiftRight_eq_div_pow, hpow,
    Nat.mod_eq_of_lt w.isLt]

/-- A word is put together again from its four lanes (R52). -/
theorem wordOfLanes_tableByte (w : Word) :
    wordOfLanes (tableByte 32 w.toNat 0) (tableByte 32 w.toNat 1) (tableByte 32 w.toNat 2)
      (tableByte 32 w.toNat 3) = w := by
  simp only [wordOfLanes, tableByte_toNat, Nat.reduceMul]
  rw [BitVec.extractLsb'_append_extractLsb'_eq_extractLsb' (start₁ := 16) (len₁ := 8) rfl,
    BitVec.extractLsb'_append_extractLsb'_eq_extractLsb' (start₁ := 8) (len₁ := 8) rfl,
    BitVec.extractLsb'_append_extractLsb'_eq_extractLsb' (start₁ := 0) (len₁ := 8) rfl]
  exact BitVec.extractLsb'_eq_self

/-- A block whose host is about to write CMD, and whose turn is the host's, runs `AcceptCmd` on the word. -/
theorem step_of_presented (s : State) (w : Word) :
    step { s with host := .wr .w32 0x0C w :: s.host, turns := .host :: s.turns } = acceptCmd w s :=
  regWrite_cmd w s

@[simp] theorem booted_host (s : State) : (booted s).host = s.host := by
  unfold booted; split <;> rfl

@[simp] theorem booted_turns (s : State) : (booted s).turns = s.turns := by
  unfold booted; split <;> rfl

/-- The word of a presented command is what the next step runs, on the block past its boot (log entry 10). -/
theorem step_presentWord (w : Word) (s : State) : step (presentWord w s) = acceptCmd w (booted s) := by
  rw [presentWord, ← booted_host, ← booted_turns]
  exact step_of_presented (booted s) w

end Machine

/-- Settles O6: both ways the turn is the host's lead to its turn, whose write of CMD is `AcceptCmd`. -/
theorem stepRunsPresentedCommand : Obligations.StepRunsPresentedCommand := by
  unfold Obligations.StepRunsPresentedCommand
  intro s width off v rest ts hhost hturns
  have hstep : step s = hostTurn { s with turns := ts } := by
    rcases hturns with ht | ⟨ht, rfl, hb⟩
    · exact step_of_turns_cons ht
    · rw [step_of_idle ht hb, ← ht]
  have hwrite : step s = regWrite width off v { s with host := rest, turns := ts } := hstep.trans (hostTurn_wr hhost)
  refine ⟨hwrite, ?_⟩
  rintro rfl rfl
  rw [hwrite, regWrite_cmd]
  exact ⟨rfl, fun i hi => acceptCmd_of_decode hi _⟩

/-- Settles O7: the presented word is the command's own, put together from its lanes. -/
theorem fetchWordRunsTheCommand : Obligations.FetchWordRunsTheCommand := by
  unfold Obligations.FetchWordRunsTheCommand
  intro s i
  rw [State.withFetchWord, wordOfLanes_tableByte, step_presentWord, acceptCmd_of_decode (decode_encode i)]
  rfl

/-- Settles O8: a host's turn on a RD line and on a POLL line. -/
theorem hostReadSteps : Obligations.HostReadSteps := by
  unfold Obligations.HostReadSteps
  intro s ts rest off v hturns hv
  have hstep : step s = hostTurn { s with turns := ts } := step_of_turns_cons hturns
  have hv' : regRead .w32 off { s with turns := ts } = some v := hv
  refine ⟨fun hhost => hstep.trans (hostTurn_rd hhost hv'), fun mask value hhost => ?_⟩
  exact hstep.trans (hostTurn_poll hhost hv')

end Sys2Proof

/-! SUPPORT. What an accepted command leaves (spec R150 to R155). -/

namespace Sys2Proof

open Sys2Proof.Machine Sys2Proof.Stated

namespace Machine

/-! ### Which command runs -/

/-- While busy a command is rejected (R150). -/
theorem exec_of_busy {s : State} (hb : busy s = true) (i : Instr) : exec i s = .next (recordErr 2 s) := by
  rcases exec_cases i s with ⟨-, h⟩ | ⟨hb', -⟩ | ⟨hb', -⟩ | ⟨hb', -⟩ | ⟨hb', -⟩ | ⟨hb', -⟩ | ⟨hb', -⟩
  · rw [h, reject_eq_recordErr]; rfl
  all_goals rw [hb] at hb'; cases hb'

theorem exec_init_of_idle {s : State} (hb : busy s = false) : exec .init s = .next (doInit s) :=
  (acceptInit_eq doInit s).trans (by rw [hb]; rfl)

theorem exec_absorb_of_allowed {s : State} (hb : busy s = false) (he : s.err = 0)
    (hp : s.phase = .fresh ∨ s.phase = .absorbing) : exec .absorb s = .next (doAbsorb s) :=
  accept_of_allowed hb he (mayAbsorb_eq_true.mpr hp)

theorem exec_absorbFinal_of_allowed {s : State} (hb : busy s = false) (he : s.err = 0)
    (hp : s.phase = .fresh ∨ s.phase = .absorbing) (len : BitVec 5) :
    exec (.absorbFinal len) s = .next (doAbsorbFinal len s) :=
  accept_of_allowed hb he (mayAbsorb_eq_true.mpr hp)

theorem exec_squeeze_of_ready {s : State} (hb : busy s = false) (he : s.err = 0) (hp : s.phase = .ready) :
    exec .squeeze s = .next (doSqueeze s) :=
  accept_of_allowed hb he (maySqueeze_eq_true.mpr hp)

/-! ### The absorbed blocks, word by word -/

/-- The byte at place 4j+k of DIN's block is lane k of DINj (R35, R153). -/
theorem dinByte_eq_lane (din : Words 8) (j k : Nat) (hj : j < 8) (hk : k < 4) (h : 4 * j + k < 32) :
    dinByte din ⟨4 * j + k, h⟩ = lane din[j] k := by
  have hdiv : (4 * j + k) / 4 = j := by omega
  have hmod : (4 * j + k) % 4 = k := by omega
  simp only [dinByte, hdiv, hmod]

/-- A full block's word is DIN's, its bytes reversed (R53, R153). -/
theorem packBE_dinBlock (din : Words 8) (j : Fin 8) : packBE (dinBlock din) j = bswap32 din[j.val] := by
  have hlane : ∀ k (hk : k < 4), (dinBlock din)[4 * j.val + k] = lane din[j.val] k := fun k hk => by
    rw [dinBlock_getElem, dinByte_eq_lane din j k j.isLt hk]
  have hlane0 : (dinBlock din)[4 * j.val] = lane din[j.val] 0 := hlane 0 (by decide)
  rw [packBE, hlane0, hlane 1 (by decide), hlane 2 (by decide), hlane 3 (by decide)]
  rfl

/-- A byte lane as R154 reads it, by a shift and a mask (R52). -/
theorem setWidth_lane (w : Word) (k : Nat) : (lane w k).setWidth 32 = (w >>> (8 * k)) &&& 0xFF := by
  have hmask : ((w >>> (8 * k)) &&& 0xFF).toNat = (w >>> (8 * k)).toNat % 2 ^ 8 :=
    Nat.and_two_pow_sub_one_eq_mod (w >>> (8 * k)).toNat 8
  apply BitVec.eq_of_toNat_eq
  rw [hmask, BitVec.toNat_setWidth, lane, BitVec.extractLsb'_toNat, BitVec.toNat_ushiftRight]
  omega

/-- A byte of the padded final block is R154's. -/
theorem setWidth_finalBlock (din : Words 8) (len : BitVec 5) (b : Nat) (h : b < 32) :
    (finalBlock din len)[b].setWidth 32 = finalByte din len b := by
  have hdiv : b >>> 2 = b / 4 := Nat.shiftRight_eq_div_pow b 2
  rw [finalBlock_getElem, finalByte]
  split_ifs
  · rw [dinByte, setWidth_lane, hdiv, getD_toList]
  · rfl
  · rfl

/-- Four bytes joined into a word are its bytes shifted to their places (R53). -/
theorem append_eq_shifts (a b c d : Byte) : a ++ b ++ c ++ d =
    (a.setWidth 32 <<< 24) ||| (b.setWidth 32 <<< 16) ||| (c.setWidth 32 <<< 8) ||| d.setWidth 32 := by
  have hshifts : (a ++ b ++ c ++ d).setWidth 32 =
      (a.setWidth 32 <<< 24) ||| (b.setWidth 32 <<< 16) ||| (c.setWidth 32 <<< 8) ||| d.setWidth 32 := by
    simp only [BitVec.setWidth_append_eq_shiftLeft_setWidth_or, BitVec.shiftLeft_or_distrib, ← BitVec.shiftLeft_add]
  exact (BitVec.setWidth_eq _).symm.trans hshifts

/-- A word of the padded final block is R53's packing of R154's bytes. -/
theorem packBE_finalBlock (din : Words 8) (len : BitVec 5) (j : Fin 8) :
    packBE (finalBlock din len) j = finalWord din len j := by
  refine (append_eq_shifts _ _ _ _).trans ?_
  simp only [setWidth_finalBlock, finalWord]

/-- ABSORB_FINAL's block is the same for two DINs with the same first LEN bytes (R154). -/
theorem finalBlock_congr {din din' : Words 8} {len : BitVec 5}
    (h : ∀ b : Fin 32, b.val < len.toNat → dinByte din b = dinByte din' b) :
    finalBlock din len = finalBlock din' len := by
  ext1 b hb
  rw [finalBlock_getElem, finalBlock_getElem]
  split_ifs with hlt
  · exact h ⟨b, hb⟩ hlt
  all_goals rfl

/-! ### Acceptance from two states -/

/-- Two acceptances that R150's tests cannot tell apart end related, where rejections and the two effects do. -/
theorem accept_rel {r : State → State → Prop} {s t : State} (allowed : Phase → Bool) (effect effect' : State → State)
    (hc : controlOf s = controlOf t) (hst : r s t) (hrecord : ∀ code, r (recordErr code s) (recordErr code t))
    (heffect : r (effect s) (effect' t)) : outcomeRel r (accept allowed effect s) (accept allowed effect' t) := by
  obtain ⟨hphase, herr, hactive, -, hready⟩ := Control.mk.inj hc
  have hb : busy s = busy t := busy_congr hactive hready
  rw [accept_eq, accept_eq, ← hb, ← herr, ← hphase]
  simp only [outcomeRel]
  split_ifs
  · exact hrecord 2
  · exact hst
  · exact heffect
  · exact hrecord 1

end Machine

/-- Settles O16: R150 tests BUSY before everything else, for a command and for an illegal word. -/
theorem busyRejectsEveryWord : Obligations.BusyRejectsEveryWord := by
  unfold Obligations.BusyRejectsEveryWord
  intro w s hb
  rcases acceptCmd_cases w s with ⟨i, -, h⟩ | ⟨-, -, h⟩
  · rw [h, exec_of_busy hb]
  · rw [h, rejectIllegal_eq_recordErr, if_pos hb]

/-- Settles O17: a locked block executes INIT alone, and 0x1 is INIT's only word. -/
theorem lockDiscardsCommands : Obligations.LockDiscardsCommands := by
  unfold Obligations.LockDiscardsCommands
  intro s _ he
  have hexec : ∀ i : Instr, i ≠ .init → exec i s = .next s := fun i hi =>
    (exec_of_locked he i).resolve_right fun ⟨_, hinit, _⟩ => hi hinit
  refine ⟨hexec, fun w hw => ?_⟩
  rcases acceptCmd_cases w s with ⟨i, hd, h⟩ | ⟨-, -, h⟩
  · obtain rfl := eq_encode_of_decode hd
    have hi : i ≠ .init := fun hinit => hw (congrArg encode hinit)
    rw [h, hexec i hi]
  · rw [h, rejectIllegal_of_locked he]

/-- Settles O10: INIT is tested for BUSY alone. -/
theorem initResult : Obligations.InitResult := by
  unfold Obligations.InitResult
  exact fun s => ⟨fun hb => exec_init_of_idle hb, fun hb => exec_of_busy hb .init⟩

/-- Settles O11: the words of DIN's block, packed big-endian, are DIN's with their bytes reversed. -/
theorem absorbResult : Obligations.AbsorbResult := by
  unfold Obligations.AbsorbResult
  intro s hb he hp
  rw [exec_absorb_of_allowed hb he hp, doAbsorb, absorbBlock, xorRate]
  simp only [packBE_dinBlock]
  rfl

/-- Settles O12: the words of the padded final block are R154's bytes in R53's packing. -/
theorem absorbFinalResult : Obligations.AbsorbFinalResult := by
  unfold Obligations.AbsorbFinalResult
  intro len s hb he hp
  rw [exec_absorbFinal_of_allowed hb he hp, doAbsorbFinal, absorbBlock, xorRate]
  simp only [packBE_finalBlock]
  rfl

/-- Settles O13: DIN decides no acceptance, and enters the effect by the final block alone. -/
theorem absorbFinalIgnoresBytesPastLen : Obligations.AbsorbFinalIgnoresBytesPastLen := by
  unfold Obligations.AbsorbFinalIgnoresBytesPastLen
  intro len s din h
  have heffect : doAbsorbFinal len { s with din := din } = { doAbsorbFinal len s with din := din } := by
    simp only [doAbsorbFinal, finalBlock_congr h]
    rfl
  exact accept_rel mayAbsorb _ _ rfl rfl (fun _ => rfl) heffect

/-- Settles O14: SQUEEZE copies the rate, whose words' lanes are the digest's bytes. -/
theorem squeezeResult : Obligations.SqueezeResult := by
  unfold Obligations.SqueezeResult
  intro s hb he hp
  refine ⟨doSqueeze s, exec_squeeze_of_ready hb he hp, rfl, fun j => rate_getElem s.S j j.isLt, fun j k => ?_⟩
  have hdiv : (4 * j.val + k.val) / 4 = j.val := by omega
  have hmod : (4 * j.val + k.val) % 4 = k.val := by omega
  simp only [digestOfDout_getElem, doSqueeze_dout, rate_getElem, hdiv, hmod, lane]

end Sys2Proof

/-! SUPPORT. Which steps write S, DIN, DOUT and RC (spec R27, R28, R35, R36, R131). -/

namespace Sys2Proof

open Sys2Proof.Machine Sys2Proof.Stated

namespace Machine

/-! ### The rejected word -/

/-- Rejecting an illegal word writes ERR alone (R85). -/
theorem rejectIllegal_frame (s : State) : rejectIllegal s = { s with err := (rejectIllegal s).err } := by
  rw [rejectIllegal_eq]

/-! ### The commands -/

/-- A command that changes DOUT is an accepted SQUEEZE or INIT (R36). -/
theorem exec_dout {i : Instr} {s t : State} (h : exec i s = .next t) (hne : t.dout ≠ s.dout) :
    busy s = false ∧ ((i = .squeeze ∧ s.err = 0 ∧ s.phase = .ready ∧ t.dout = rate s.S) ∨
      (i = .init ∧ t.dout = Vector.replicate 8 0)) := by
  rcases exec_cases i s with ⟨-, hx⟩ | ⟨-, -, -, hx⟩ | ⟨-, -, -, hx⟩ | ⟨hb, hi, hx⟩ | ⟨-, -, -, -, hx⟩ |
    ⟨-, -, -, len, -, hx⟩ | ⟨hb, he, hp, hi, hx⟩ <;> rw [hx] at h <;> cases h
  case inr.inr.inr.inl => exact ⟨hb, .inr ⟨hi, rfl⟩⟩
  case inr.inr.inr.inr.inr.inr => exact ⟨hb, .inl ⟨hi, he, hp, rfl⟩⟩
  all_goals simp at hne

/-- A command that changes S is accepted, is one its phase allows, and is not SQUEEZE (R153 to R155). -/
theorem exec_S {i : Instr} {s t : State} (h : exec i s = .next t) (hne : t.S ≠ s.S) :
    busy s = false ∧ i ≠ .squeeze ∧ (i = .init ∨ s.err = 0) ∧ phaseAfter s.phase i ≠ none := by
  rcases exec_cases i s with ⟨-, hx⟩ | ⟨-, -, -, hx⟩ | ⟨-, -, -, hx⟩ | ⟨hb, rfl, hx⟩ | ⟨hb, he, ha, rfl, hx⟩ |
    ⟨hb, he, ha, len, rfl, hx⟩ | ⟨-, -, -, -, hx⟩ <;> rw [hx] at h <;> cases h
  case inr.inr.inr.inl => exact ⟨hb, nofun, .inl rfl, by simp [phaseAfter_init]⟩
  case inr.inr.inr.inr.inl => exact ⟨hb, nofun, .inr he, by simp [phaseAfter_absorb, ha]⟩
  case inr.inr.inr.inr.inr.inl => exact ⟨hb, nofun, .inr he, by simp [phaseAfter_absorbFinal, ha]⟩
  all_goals simp at hne

/-- No command writes DIN, RC or RC_READY (R152 to R155). -/
theorem exec_frame {i : Instr} {s t : State} (h : exec i s = .next t) :
    t.din = s.din ∧ t.rc = s.rc ∧ t.rcReady = s.rcReady := by
  rcases exec_cases i s with ⟨-, hx⟩ | ⟨-, -, -, hx⟩ | ⟨-, -, -, hx⟩ | ⟨-, -, hx⟩ | ⟨-, -, -, -, hx⟩ |
    ⟨-, -, -, len, -, hx⟩ | ⟨-, -, -, -, hx⟩ <;> rw [hx] at h <;> cases h <;> simp

/-! ### The host's turn -/

/-- What the host's turn can write beside what a command does: ERR, DIN and RC_INDEX (R188 to R192). -/
theorem hostTurn_exec_or_frame {s t : State} (h : hostTurn s = .next t) :
    (∃ i rest, s.host = .wr .w32 0x0C (encode i) :: rest ∧ exec i { s with host := rest } = .next t) ∨
    t = { s with
      err := t.err, din := t.din, rcIndex := t.rcIndex, host := t.host, turns := t.turns, reads := t.reads } := by
  rcases hostTurn_next_cases h with hx | ⟨-, -, rest, -, -, rfl⟩ | ⟨j, v, rest, -, rfl⟩ | ⟨v, rest, -, rfl⟩ | hsame
  · exact .inl hx
  · exact .inr (by rw [rejectIllegal_eq])
  · exact .inr rfl
  · exact .inr rfl
  · unfold sameBlock at hsame; exact .inr (by rw [hsame])

/-- A host's turn that changes DIN writes one DIN word (R187, R188). -/
theorem hostTurn_din {s t : State} (h : hostTurn s = .next t) (hne : t.din ≠ s.din) :
    ∃ j v rest, s.host = .wr .w32 (regOffset (.din j)) v :: rest ∧ t.din = s.din.set j.val v := by
  rcases hostTurn_next_cases h with ⟨i, rest, -, hx⟩ | ⟨-, -, rest, -, -, rfl⟩ | ⟨j, v, rest, hs, rfl⟩ |
    ⟨v, rest, -, rfl⟩ | hsame
  · obtain ⟨hdin, -⟩ := exec_frame hx
    exact absurd hdin hne
  · exact absurd (congrArg State.din (rejectIllegal_frame _)) hne
  · exact ⟨j, v, rest, hs, rfl⟩
  · exact absurd rfl hne
  · exact absurd (congrArg State.din hsame) hne

/-- The host never writes RC or RC_READY (R28, R109). -/
theorem hostTurn_rc {s t : State} (h : hostTurn s = .next t) : t.rc = s.rc ∧ t.rcReady = s.rcReady := by
  rcases hostTurn_exec_or_frame h with ⟨i, rest, -, hx⟩ | hframe
  · obtain ⟨-, hrc, hready⟩ := exec_frame hx
    exact ⟨hrc, hready⟩
  · have hrc := congrArg State.rc hframe
    have hready := congrArg State.rcReady hframe
    exact ⟨hrc, hready⟩

/-! ### The engines' turns -/

/-- The permutation engine does nothing while PERM_ACTIVE = 0 (R129). -/
theorem permTurn_of_idle {s : State} (h : s.permActive = false) : permTurn s = .next s := by
  simp [permTurn_eq, h]

/-- The constant generator does nothing while RC_READY = 1 (R108). -/
theorem genTurn_of_ready {s : State} (h : s.rcReady = true) : genTurn s = .next s := by
  simp [genTurn_eq, h]

/-- The GEN step (R108). -/
theorem genTurn_of_not_ready {s : State} (h : s.rcReady = false) : genTurn s = .next (genStep s) := by
  simp [genTurn_eq, h]

end Machine

/-- Settles O21, by the agent whose turn the step is: the engines leave DOUT alone, and of the host's accesses two
commands write it. -/
theorem doutWrittenOnlyBySqueezeInitReset : Obligations.DoutWrittenOnlyBySqueezeInitReset := by
  unfold Obligations.DoutWrittenOnlyBySqueezeInitReset
  intro s t h hne
  obtain ⟨ts, hstep⟩ := step_eq_agentTurn s
  rw [hstep] at h
  cases hturn : turnOf s <;> rw [hturn] at h
  case host =>
    rcases hostTurn_exec_or_frame h with ⟨i, rest, hs, hx⟩ | hframe
    · obtain ⟨hb, ⟨rfl, he, hp, hd⟩ | ⟨rfl, hd⟩⟩ := exec_dout hx hne
      · exact .inl ⟨⟨⟨hturn, rest, hs⟩, hb, .inr he⟩, hp, hd⟩
      · exact .inr ⟨.inl ⟨⟨hturn, rest, hs⟩, hb⟩, hd⟩
    · exact absurd (congrArg State.dout hframe) hne
  case permEngine => exact absurd (congrArg State.dout (permTurn_frame h)) hne
  case generator => exact absurd (congrArg State.dout (genTurn_frame h)) hne
  case resetLine => cases h; exact .inr ⟨.inr rfl, rfl⟩

/-- Settles O22, by the agent whose turn the step is: no command and no engine writes DIN. -/
theorem dinWrittenOnlyByHostAndReset : Obligations.DinWrittenOnlyByHostAndReset := by
  unfold Obligations.DinWrittenOnlyByHostAndReset
  intro s t h hne
  obtain ⟨ts, hstep⟩ := step_eq_agentTurn s
  rw [hstep] at h
  cases hturn : turnOf s <;> rw [hturn] at h
  case host =>
    obtain ⟨j, v, rest, hs, hd⟩ := hostTurn_din h hne
    exact .inl ⟨j, v, rest, rfl, hs, hd⟩
  case permEngine => exact absurd (congrArg State.din (permTurn_frame h)) hne
  case generator => exact absurd (congrArg State.din (genTurn_frame h)) hne
  case resetLine => cases h; exact .inr ⟨rfl, rfl⟩

/-- Settles O23, by the agent whose turn the step is: only the generator's own step and reset write RC and RC_READY. -/
theorem rcWrittenOnlyByGenAndReset : Obligations.RcWrittenOnlyByGenAndReset := by
  unfold Obligations.RcWrittenOnlyByGenAndReset
  intro s t h hne
  have hnot : ¬ (t.rc = s.rc ∧ t.rcReady = s.rcReady) := not_and_or.mpr hne
  obtain ⟨ts, hstep⟩ := step_eq_agentTurn s
  rw [hstep] at h
  cases hturn : turnOf s <;> rw [hturn] at h
  case host => exact absurd (hostTurn_rc h) hnot
  case permEngine =>
    have hrc := congrArg State.rc (permTurn_frame h)
    have hready := congrArg State.rcReady (permTurn_frame h)
    exact absurd ⟨hrc, hready⟩ hnot
  case generator =>
    cases hready : s.rcReady with
    | true => cases (genTurn_of_ready (s := { s with turns := ts }) hready).symm.trans h; exact absurd ⟨rfl, rfl⟩ hnot
    | false =>
      cases (genTurn_of_not_ready (s := { s with turns := ts }) hready).symm.trans h
      exact .inl ⟨rfl, rfl, rfl⟩
  case resetLine => cases h; exact .inr ⟨rfl, rfl⟩

/-- Settles O24, by the agent whose turn the step is: of the host's accesses an accepted command alone writes S, and
commands are accepted only while no permutation runs. -/
theorem permutationStateWriters : Obligations.PermutationStateWriters := by
  unfold Obligations.PermutationStateWriters
  intro s t h hne
  obtain ⟨ts, hstep⟩ := step_eq_agentTurn s
  rw [hstep] at h
  cases hturn : turnOf s <;> rw [hturn] at h
  case host =>
    rcases hostTurn_exec_or_frame h with ⟨i, rest, hs, hx⟩ | hframe
    · obtain ⟨hb, hi, he, hallowed⟩ := exec_S hx hne
      obtain ⟨hactive, -⟩ := busy_eq_false.mp hb
      exact .inr (.inr ⟨hactive, i, hi, ⟨⟨hturn, rest, hs⟩, hb, he⟩, hallowed⟩)
    · exact absurd (congrArg State.S hframe) hne
  case permEngine =>
    cases hactive : s.permActive with
    | true => exact .inl ⟨rfl, rfl⟩
    | false => cases (permTurn_of_idle (s := { s with turns := ts }) hactive).symm.trans h; exact absurd rfl hne
  case generator => exact absurd (congrArg State.S (genTurn_frame h)) hne
  case resetLine => exact .inr (.inl rfl)

end Sys2Proof

/-! SUPPORT. The window, and the registers that are read as they stand (spec R10, R50, R184, R188, R189). -/

namespace Sys2Proof

open Sys2Proof.Machine Sys2Proof.Stated

namespace Machine

/-- The bus address of an offset is in the window, and leads back to the offset (R10, R50). -/
@[simp] theorem windowOffset_busAddress (off : Offset) : windowOffset (busAddress off) = some off := by
  have hlt : off.toNat < 256 := off.isLt
  rw [windowOffset, busAddress, if_pos (by omega), Nat.add_sub_cancel_left, BitVec.ofNat_toNat, BitVec.setWidth_eq]

theorem windowOffset_eq_none_iff (addr : Nat) :
    windowOffset addr = none ↔ addr < Config.base ∨ Config.base + 0xFF < addr := by
  simp only [windowOffset, ite_eq_right_iff, reduceCtorEq, imp_false]
  omega

/-- A write to a register at an offset that R192 does not name changes nothing (R184). -/
theorem writeReg_of_not_writable {r : Reg} (h : ¬ writable (regOffset r)) (v : Word) (s : State) :
    writeReg r v s = .next s := by
  rcases writeReg_cases r v s with ⟨rfl, -⟩ | ⟨j, rfl, -⟩ | ⟨rfl, -⟩ | ⟨-, hw⟩
  · exact absurd (.inl rfl) h
  · exact absurd (writable_regOffset_din j) h
  · exact absurd (.inr (.inr rfl)) h
  · exact hw

end Machine

/-- Settles O26: an address in the window is BASE and an offset, whatever page BASE is. -/
theorem windowIsOnePage : Obligations.WindowIsOnePage := by
  unfold Obligations.WindowIsOnePage
  refine ⟨Nat.mul_mod_right 256 _, fun off => ⟨rfl, windowOffset_busAddress off⟩, fun width off v s => ?_,
    windowOffset_eq_none_iff⟩
  have hoff : windowOffset (Config.base + off.toNat) = some off := windowOffset_busAddress off
  simp only [memRead, memWrite, hoff, and_self]

/-- Settles O29: the offsets are those of the DIN and the DOUT registers. -/
theorem buffersReadBack : Obligations.BuffersReadBack := by
  unfold Obligations.BuffersReadBack
  exact fun s j => ⟨regRead_regOffset (.din j) s, regRead_regOffset (.dout j) s⟩

/-- Settles O33: an admitted offset is a register's, and one that is not writable is that of no writable register. -/
theorem readOnlyWritesIgnored : Obligations.ReadOnlyWritesIgnored := by
  unfold Obligations.ReadOnlyWritesIgnored
  intro s v off hadmitted hw
  obtain ⟨r, hr⟩ := exists_reg_of_admitted hadmitted
  obtain ⟨-, rfl⟩ := regOfAccess_eq_some hr
  rw [regWrite_of_reg hr, writeReg_of_not_writable hw]

end Sys2Proof

/-! SUPPORT. What every step keeps (spec R25, R33, R36, R109, R128, R189, R210). -/

namespace Sys2Proof

open Sys2Proof.Machine Sys2Proof.Stated

/-! ### The invariant and each state operation -/

/-- The invariant does not speak of DIN, RC_INDEX and the environment. -/
theorem BlockInv.congr {s t : State} (hs : BlockInv s) (h : t = { s with
    din := t.din, rcIndex := t.rcIndex, host := t.host, turns := t.turns, reads := t.reads }) : BlockInv t := by
  rw [h]
  exact { hs with }

theorem blockInv_resetBlock (s : State) : BlockInv (resetBlock s) where
  errLegal := by simp
  roundLegal := by simp
  roundIdle := by simp
  activeReady := by simp
  activePhase := by simp
  rcTable := by simp
  doutZero := by simp
  doutRate := by simp
  freshZero := by simp
  unreadyFresh := by simp

section

variable {s : State} (hs : BlockInv s)
include hs

/-- Recording one of the three codes keeps the invariant (R210, R211). -/
theorem BlockInv.reject {code : BitVec 4} (hcode : code.toNat ≤ 3) : BlockInv (reject code s) := by
  rw [reject_eq]
  have herr : (if s.err = errNone then code else s.err).toNat ≤ 3 := by
    split
    · exact hcode
    · exact hs.errLegal
  exact { hs with errLegal := herr }

theorem BlockInv.doInit (hb : busy s = false) : BlockInv (doInit s) := by
  obtain ⟨hactive, hready⟩ := busy_eq_false.mp hb
  exact {
    errLegal := by simp [errNone]
    roundLegal := hs.roundLegal
    roundIdle := hs.roundIdle
    activeReady := hs.activeReady
    activePhase := by simp [hactive]
    rcTable := hs.rcTable
    doutZero := by simp
    doutRate := by simp
    freshZero := by simp
    unreadyFresh := by simp }

/-- Absorbing a block keeps the invariant, where the phase it sets is an absorb command's (R151). -/
theorem BlockInv.absorbBlock (hb : busy s = false) (hp : mayAbsorb s.phase = true) (B : Block) {p : Phase}
    (hnew : p = .absorbing ∨ p = .ready) : BlockInv (absorbBlock B p s) := by
  obtain ⟨-, hready⟩ := busy_eq_false.mp hb
  have hdout : s.dout = Vector.replicate 8 0 := hs.doutZero fun h => by simp [h, mayAbsorb] at hp
  have hnotFresh : p ≠ .fresh := by rintro rfl; simp at hnew
  have hnotSqueezed : p ≠ .squeezed := by rintro rfl; simp at hnew
  exact {
    errLegal := by simpa using hs.errLegal
    roundLegal := by simp
    roundIdle := by simp
    activeReady := by simp [hready]
    activePhase := by simp [hnew]
    rcTable := by simpa using hs.rcTable
    doutZero := by simp [hdout]
    doutRate := by simp [hnotSqueezed]
    freshZero := by simp [hnotFresh]
    unreadyFresh := by simp [hready] }

theorem BlockInv.doSqueeze (hb : busy s = false) : BlockInv (doSqueeze s) := by
  obtain ⟨hactive, hready⟩ := busy_eq_false.mp hb
  exact {
    errLegal := hs.errLegal
    roundLegal := hs.roundLegal
    roundIdle := hs.roundIdle
    activeReady := hs.activeReady
    activePhase := by simp [hactive]
    rcTable := hs.rcTable
    doutZero := by simp
    doutRate := by simp
    freshZero := by simp
    unreadyFresh := by simp [hready] }

/-- While a permutation runs, S, and so what a round makes of it, is in no clause: PHASE is ABSORBING or READY. -/
theorem BlockInv.setRound (hactive : s.permActive = true) (S : Words 16) {active : Bool} {round : BitVec 8}
    (hlegal : round.toNat < Config.numRounds) (hidle : active = false → round = 0) :
    BlockInv { s with S := S, permActive := active, round := round } := by
  have hphase := hs.activePhase hactive
  have hready := hs.activeReady hactive
  exact { hs with
    roundLegal := hlegal
    roundIdle := hidle
    activeReady := fun _ => hready
    activePhase := fun _ => hphase
    doutRate := fun h => absurd h (by rcases hphase with hp | hp <;> simp [hp])
    freshZero := fun h => absurd h (by rcases hphase with hp | hp <;> simp [hp]) }

theorem BlockInv.genStep : BlockInv (genStep s) where
  errLegal := hs.errLegal
  roundLegal := hs.roundLegal
  roundIdle := hs.roundIdle
  activeReady := by simp
  activePhase := hs.activePhase
  rcTable := by simp
  doutZero := hs.doutZero
  doutRate := hs.doutRate
  freshZero := hs.freshZero
  unreadyFresh := by simp

/-! ### The invariant and each agent's turn -/

/-- A command keeps the invariant, rejected, discarded or accepted. -/
theorem BlockInv.exec {i : Instr} {t : State} (h : exec i s = .next t) : BlockInv t := by
  rcases exec_cases i s with ⟨-, hx⟩ | ⟨-, -, -, hx⟩ | ⟨-, -, -, hx⟩ | ⟨hb, -, hx⟩ | ⟨hb, -, hp, -, hx⟩ |
    ⟨hb, -, hp, len, -, hx⟩ | ⟨hb, -, -, -, hx⟩ <;> rw [hx] at h <;>
    obtain rfl := Host.Outcome.next.inj h
  · exact hs.reject (by decide)
  · exact hs
  · exact hs.reject (by decide)
  · exact hs.doInit hb
  · exact hs.absorbBlock hb hp _ (.inl rfl)
  · exact hs.absorbBlock hb hp _ (.inr rfl)
  · exact hs.doSqueeze hb

theorem BlockInv.rejectIllegal : BlockInv (rejectIllegal s) := by
  rcases rejectIllegal_cases s with ⟨-, h⟩ | ⟨-, h⟩ <;> rw [h]
  · exact hs.reject (by decide)
  · exact hs.reject (by decide)

theorem BlockInv.hostTurn {t : State} (h : hostTurn s = .next t) : BlockInv t := by
  have hrest : ∀ rest, BlockInv { s with host := rest } := fun _ => hs.congr rfl
  rcases hostTurn_next_cases h with ⟨i, rest, -, hx⟩ | ⟨-, -, rest, -, -, rfl⟩ | ⟨j, v, rest, -, rfl⟩ |
    ⟨v, rest, -, rfl⟩ | hsame
  · exact (hrest rest).exec hx
  · exact (hrest rest).rejectIllegal
  · exact hs.congr rfl
  · exact hs.congr rfl
  · exact hs.congr (by unfold sameBlock at hsame; rw [hsame])

theorem BlockInv.permTurn {t : State} (h : permTurn s = .next t) : BlockInv t := by
  cases hactive : s.permActive with
  | false =>
    rw [permTurn_of_idle hactive] at h
    cases h
    exact hs
  | true =>
    rw [permTurn_eq, if_pos hactive] at h
    rcases permRound_cases s with ⟨hlt, -, hr⟩ | ⟨hlt, hne, hr⟩ | ⟨-, hr⟩ <;> rw [hr] at h
    · obtain rfl := Host.Outcome.next.inj h
      exact hs.setRound hactive _ (by decide) fun _ => rfl
    · obtain rfl := Host.Outcome.next.inj h
      have hlt' : s.round.toNat < 43 := hlt
      have hne' : s.round.toNat + 1 ≠ 43 := hne
      have hnext : (s.round + 1).toNat < 43 := by bv_omega
      exact hs.setRound hactive _ hnext fun hidle => absurd hactive (by simp [hidle])
    · cases h

theorem BlockInv.genTurn {t : State} (h : genTurn s = .next t) : BlockInv t := by
  cases hready : s.rcReady with
  | true =>
    rw [genTurn_of_ready hready] at h
    cases h
    exact hs
  | false =>
    rw [genTurn_of_not_ready hready] at h
    cases h
    exact hs.genStep

theorem BlockInv.agentTurn {a : Agent} {t : State} (h : agentTurn a s = .next t) : BlockInv t := by
  cases a with
  | host => exact hs.hostTurn h
  | permEngine => exact hs.permTurn h
  | generator => exact hs.genTurn h
  | resetLine => cases h; exact blockInv_resetBlock s

end

namespace Machine

/-! ### The round-index fault -/

/-- The host's turn never faults: a bus error is a refusal (R180). -/
theorem hostTurn_ne_fault (s : State) (f : Fault) : hostTurn s ≠ .fault f := by
  rcases hostTurn_cases s with ⟨-, h⟩ | ⟨width, off, v, rest, r, -, -, h⟩ | ⟨-, -, rest, r, -, -, h⟩ |
    ⟨-, -, -, rest, -, -, -, -, h⟩ | ⟨-, -, -, -, -, -, -, -, h⟩ | ⟨off, h⟩ <;> rw [h]
  case inr.inl =>
    obtain ⟨t, ht⟩ := writeReg_completes r v { s with host := rest }
    rw [ht]
    exact nofun
  all_goals exact nofun

/-- The permutation engine faults only on a round index out of range (R128). -/
theorem permTurn_ne_fault {s : State} (hlegal : s.round.toNat < Config.numRounds) (f : Fault) :
    permTurn s ≠ .fault f := by
  rw [permTurn_eq]
  split
  · rcases permRound_cases s with ⟨_, -, hr⟩ | ⟨_, -, hr⟩ | ⟨hge, -⟩
    · rw [hr]; exact nofun
    · rw [hr]; exact nofun
    · exact absurd hlegal (Nat.not_lt.mpr hge)
  · exact nofun

end Machine

/-- Settles O52, by the agent whose turn the step is: each keeps the invariant, and which turns remain is no clause. -/
theorem stepKeepsInv : Obligations.StepKeepsInv := by
  unfold Obligations.StepKeepsInv
  intro s t hs h
  obtain ⟨ts, hstep⟩ := step_eq_agentTurn s
  have hturns : BlockInv { s with turns := ts } := hs.congr rfl
  exact hturns.agentTurn (hstep.symm.trans h)

/-- Settles O51: the state after reset is what the reset event leaves. -/
theorem invAtReset : Obligations.InvAtReset :=
  blockInv_resetBlock State.reset

/-- Settles O53, by the agent whose turn the step is: the invariant keeps the round index of the one fault in range. -/
theorem invExcludesTheFault : Obligations.InvExcludesTheFault := by
  unfold Obligations.InvExcludesTheFault Safe
  intro s hs f
  obtain ⟨ts, hstep⟩ := step_eq_agentTurn s
  rw [hstep]
  cases turnOf s with
  | host => exact hostTurn_ne_fault _ f
  | permEngine => exact permTurn_ne_fault (s := { s with turns := ts }) hs.roundLegal f
  | generator => exact nofun
  | resetLine => exact nofun

end Sys2Proof

/-! SUPPORT. The GEN step, and the state after reset (spec R108, R241). -/

namespace Sys2Proof

open Sys2Proof.Machine Sys2Proof.Stated

/-- Settles O46: the generator's turn, and the table it fills in is what `generate_constants` answers. -/
theorem genStepFillsTheTable : Obligations.GenStepFillsTheTable := by
  unfold Obligations.GenStepFillsTheTable
  intro s ts hturns
  have hstep : step s = genTurn { s with turns := ts } := step_of_turns_cons hturns
  rw [hstep]
  exact ⟨fun hready => ⟨_, genTurn_of_not_ready hready, rfl, Laws.generateConstants_seed⟩,
    fun hready => genTurn_of_ready hready⟩

/-- Settles O50: INIT zeroes what reset zeroes, and a block that is not busy has its table and runs no permutation. -/
theorem afterReset : Obligations.AfterReset := by
  unfold Obligations.AfterReset
  refine ⟨by decide, permTurn_of_idle rfl, genStep State.reset, genTurn_of_not_ready rfl, by decide, rfl, ?_⟩
  intro s u hb hround hinit
  obtain ⟨hactive, hready⟩ := busy_eq_false.mp hb
  cases (exec_init_of_idle hb).symm.trans hinit
  simp only [doInit, releaseLock, hactive, hready, hround]
  rfl

end Sys2Proof

/-! SUPPORT. What two states that agree in part show the host, and where a turn leads from both (spec R23, R28, R132,
R223, R248). -/

namespace Sys2Proof

open Sys2Proof.Machine Sys2Proof.Stated

namespace Machine

/-! ### One turn from two states -/

theorem outcomeRel_mono {r q : State → State → Prop} (h : ∀ s t, r s t → q s t)
    {x y : Host.Outcome State Fault Refusal} (hxy : outcomeRel r x y) : outcomeRel q x y := by
  cases x with
  | next s =>
    cases y with
    | next t => exact h s t hxy
    | fault | refused => exact hxy
  | fault | refused => cases y <;> exact hxy

theorem outcomeRel_refl {r : State → State → Prop} (h : ∀ s, r s s) (x : Host.Outcome State Fault Refusal) :
    outcomeRel r x x := by
  cases x with
  | next s => exact h s
  | fault f => exact rfl
  | refused f => exact rfl

section

variable {r : State → State → Prop} {s t : State}

/-- A command leads from two states with the same control to related outcomes, if each thing it can do does. -/
theorem exec_rel (hc : controlOf s = controlOf t) (hst : r s t)
    (hrecord : ∀ code, r (recordErr code s) (recordErr code t)) (hinit : r (doInit s) (doInit t))
    (habsorb : r (doAbsorb s) (doAbsorb t)) (hfinal : ∀ len, r (doAbsorbFinal len s) (doAbsorbFinal len t))
    (hsqueeze : r (doSqueeze s) (doSqueeze t)) (i : Instr) : outcomeRel r (exec i s) (exec i t) := by
  cases i with
  | init =>
    obtain ⟨-, -, hactive, -, hready⟩ := Control.mk.inj hc
    have hb : busy s = busy t := busy_congr hactive hready
    have hs : exec .init s = _ := acceptInit_eq doInit s
    have ht : exec .init t = _ := acceptInit_eq doInit t
    rw [hs, ht, ← hb]
    simp only [outcomeRel]
    split
    · exact hrecord 2
    · exact hinit
  | absorb => exact accept_rel mayAbsorb _ _ hc hst hrecord habsorb
  | absorbFinal len => exact accept_rel mayAbsorb _ _ hc hst hrecord (hfinal len)
  | squeeze => exact accept_rel maySqueeze _ _ hc hst hrecord hsqueeze

/-- A CMD write does, if the commands do and recording an error does: the word alone decides whether it is legal. -/
theorem acceptCmd_rel (hb : busy s = busy t) (hrecord : ∀ code, r (recordErr code s) (recordErr code t))
    (hexec : ∀ i, outcomeRel r (exec i s) (exec i t)) {w : Word} : outcomeRel r (acceptCmd w s) (acceptCmd w t) := by
  unfold acceptCmd
  cases decode w with
  | ok i => exact hexec i
  | error e =>
    simp only [rejectIllegal_eq_recordErr, ← hb, outcomeRel]
    split
    · exact hrecord 2
    · exact hrecord 3

/-- A register write does, if a CMD write, a DIN write and an RC_INDEX write do. -/
theorem writeReg_rel {v : Word} (hst : r s t) (hcmd : outcomeRel r (acceptCmd v s) (acceptCmd v t))
    (hdin : ∀ j, r (writeDin j v s) (writeDin j v t)) (hindex : r (writeRcIndex v s) (writeRcIndex v t)) {reg : Reg} :
    outcomeRel r (writeReg reg v s) (writeReg reg v t) := by
  cases reg with
  | cmd => exact hcmd
  | din j => exact hdin j
  | rcIndex => exact hindex
  | id | param | status | dout | rcData => exact hst

/-- The host's turn does, if the two states read alike and a register write does. -/
theorem hostTurn_rel (hhost : s.host = t.host) (hread : ∀ reg, readReg reg s = readReg reg t) (hst : r s t)
    (hdone : ∀ rest, r { s with host := rest } { t with host := rest })
    (hword : ∀ rest v, r { s with host := rest, reads := v :: s.reads } { t with host := rest, reads := v :: t.reads })
    (hwrite : ∀ reg v rest,
      outcomeRel r (writeReg reg v { s with host := rest }) (writeReg reg v { t with host := rest })) :
    outcomeRel r (hostTurn s) (hostTurn t) := by
  unfold hostTurn
  rw [← hhost]
  cases s.host with
  | nil => exact hst
  | cons line rest =>
    cases line with
    | wr width off v =>
      simp only [regWrite]
      cases regOfAccess width off with
      | none => exact rfl
      | some reg => exact hwrite reg v rest
    | rd width off =>
      simp only [regRead]
      cases regOfAccess width off with
      | none => exact rfl
      | some reg => simp only [← hread]; exact hword rest _
    | poll off mask value =>
      simp only [regRead]
      cases regOfAccess .w32 off with
      | none => exact rfl
      | some reg =>
        simp only [← hread]
        split
        · exact hdone rest
        · exact hst

end

/-! ### The capacity -/

/-- No register reads S (R23, R181 to R191). -/
theorem readReg_setS (reg : Reg) (s : State) (T : Words 16) : readReg reg { s with S := T } = readReg reg s := by
  cases reg <;> rfl

theorem regRead_setS (width : Width) (off : Offset) (s : State) (T : Words 16) :
    regRead width off { s with S := T } = regRead width off s := by
  simp only [regRead, readReg_setS]

theorem rate_congr {S T : Words 16} (h : ∀ j : Fin 8, T[j.val] = S[j.val]) : rate T = rate S := by
  ext1 j hj
  rw [rate_getElem, rate_getElem]
  exact h ⟨j, hj⟩

/-- The two states differ at most in S. -/
def sameButS (s t : State) : Prop := t = { s with S := t.S }

/-- A register write leaves two states with the same rate with the same everything but S: SQUEEZE alone takes in S, and
only the rate. -/
theorem writeReg_setS (reg : Reg) (v : Word) (s : State) {T : Words 16} (hT : rate T = rate s.S) :
    outcomeRel sameButS (writeReg reg v s) (writeReg reg v { s with S := T }) := by
  have hsqueeze : doSqueeze { s with S := T } = { doSqueeze s with S := T } := by
    simp only [doSqueeze, hT]
  have hexec : ∀ i, outcomeRel sameButS (exec i s) (exec i { s with S := T }) :=
    exec_rel rfl rfl (fun _ => rfl) rfl rfl (fun _ => rfl) hsqueeze
  have hcmd := acceptCmd_rel (r := sameButS) (s := s) (t := { s with S := T }) (w := v) rfl (fun _ => rfl) hexec
  exact writeReg_rel (r := sameButS) (s := s) (t := { s with S := T }) rfl hcmd (fun _ => rfl) rfl

/-! ### RC before GEN -/

/-- Before GEN no register reads RC (R28, R190). -/
theorem readReg_setRc (reg : Reg) {s : State} (hready : s.rcReady = false) (rc : Words 688) :
    readReg reg { s with rc := rc } = readReg reg s := by
  cases reg with
  | rcData =>
    have hs : rcDataWord s = 0 := rcDataWord_eq_zero (.inl hready)
    have ht : rcDataWord { s with rc := rc } = 0 := rcDataWord_eq_zero (.inl hready)
    exact ht.trans hs.symm
  | _ => rfl

/-- Before GEN the block is busy, so a CMD write records an error at most, and no other write takes in RC. -/
theorem writeReg_setRc (reg : Reg) (v : Word) {s : State} (hready : s.rcReady = false) (rc : Words 688) :
    outcomeRel sameBeforeGen (writeReg reg v s) (writeReg reg v { s with rc := rc }) := by
  have hb : busy s = true := busy_eq_true.mpr (.inr hready)
  have hcmd : outcomeRel sameBeforeGen (acceptCmd v s) (acceptCmd v { s with rc := rc }) := by
    rw [busyRejectsEveryWord v s hb, busyRejectsEveryWord v { s with rc := rc } hb]
    exact ⟨hready, rfl⟩
  exact writeReg_rel ⟨hready, rfl⟩ hcmd (fun _ => ⟨hready, rfl⟩) ⟨hready, rfl⟩

/-- Before GEN an agent's turn, with no permutation running, takes in RC only to overwrite it. -/
theorem agentTurn_setRc (a : Agent) {s : State} (hready : s.rcReady = false) (hactive : s.permActive = false)
    (rc : Words 688) :
    outcomeRel sameButUnreadyRc (agentTurn a s) (agentTurn a { s with rc := rc }) := by
  cases a with
  | host =>
    have hturn : outcomeRel sameBeforeGen (hostTurn s) (hostTurn { s with rc := rc }) :=
      hostTurn_rel rfl (fun reg => (readReg_setRc reg hready rc).symm) ⟨hready, rfl⟩ (fun _ => ⟨hready, rfl⟩)
        (fun _ _ => ⟨hready, rfl⟩) fun reg v rest => writeReg_setRc (s := { s with host := rest }) reg v hready rc
    exact outcomeRel_mono (fun _ _ => .inr) hturn
  | permEngine =>
    have hs : permTurn s = .next s := permTurn_of_idle hactive
    have ht : permTurn { s with rc := rc } = .next { s with rc := rc } := permTurn_of_idle hactive
    simp only [agentTurn, hs, ht]
    exact .inr ⟨hready, rfl⟩
  | generator =>
    have hs : genTurn s = .next (genStep s) := genTurn_of_not_ready hready
    have ht : genTurn { s with rc := rc } = .next (genStep s) := genTurn_of_not_ready hready
    simp only [agentTurn, hs, ht]
    exact .inl rfl
  | resetLine => exact .inl rfl

/-! ### Control -/

/-- A turn of the permutation engine counts and ends the rounds by ROUND alone (R128, R129). -/
theorem permTurn_control {s t : State} (hc : controlOf s = controlOf t) :
    outcomeRel (fun a b => controlOf a = controlOf b) (permTurn s) (permTurn t) := by
  obtain ⟨hphase, herr, hactive, hround, hready⟩ := Control.mk.inj hc
  simp only [permTurn, permRound, ← hactive, ← hround]
  split_ifs <;> simp only [outcomeRel, controlOf, hphase, herr, hactive, hround, hready]

theorem genTurn_control {s t : State} (hc : controlOf s = controlOf t) :
    outcomeRel (fun a b => controlOf a = controlOf b) (genTurn s) (genTurn t) := by
  obtain ⟨hphase, herr, hactive, hround, hready⟩ := Control.mk.inj hc
  simp only [genTurn, ← hready, outcomeRel]
  split
  · exact hc
  · simp only [controlOf, genStep_phase, genStep_err, genStep_permActive, genStep_round, genStep_rcReady, hphase, herr,
      hactive, hround]

end Machine

/-- Settles O35: no register reads S, and of what the host's turn can do SQUEEZE alone takes in its rate. -/
theorem capacityNeverExposed : Obligations.CapacityNeverExposed := by
  unfold Obligations.CapacityNeverExposed
  intro s T hT
  refine ⟨fun width off => regRead_setS width off s T, ?_⟩
  exact hostTurn_rel rfl (fun reg => (readReg_setS reg s T).symm) rfl (fun _ => rfl) (fun _ _ => rfl)
    fun reg v rest => writeReg_setS reg v { s with host := rest } (rate_congr hT)

/-- Settles O36: before GEN no permutation runs, so the step takes in RC only to overwrite it. -/
theorem rcUnobservableBeforeGen : Obligations.RcUnobservableBeforeGen := by
  unfold Obligations.RcUnobservableBeforeGen
  rintro s t hs (rfl | ⟨hready, ht⟩)
  · exact outcomeRel_refl (fun _ => .inl rfl) (step s)
  · have hactive : s.permActive = false := by
      by_contra hactive
      rw [hs.activeReady (by simpa using hactive)] at hready
      cases hready
    have htturns : t.turns = s.turns := by rw [ht]
    cases hturns : s.turns with
    | nil =>
      rw [step_of_turns_nil hturns, step_of_turns_nil (htturns.trans hturns), ht]
      exact agentTurn_setRc (defaultAgent s) hready hactive t.rc
    | cons a ts =>
      rw [step_of_turns_cons hturns, step_of_turns_cons (htturns.trans hturns), ht]
      exact agentTurn_setRc (s := { s with turns := ts }) a hready hactive t.rc

/-- Settles O37: R150's tests, the rounds' count and the generator's test read control elements alone, and what follows
sets them to values that depend on nothing else. -/
theorem controlIndependentOfData : Obligations.ControlIndependentOfData := by
  unfold Obligations.ControlIndependentOfData
  intro s t hc
  have hrecord : ∀ code, controlOf (recordErr code s) = controlOf (recordErr code t) := fun code =>
    congrArg (fun c : Control => { c with err := if c.err = 0 then code else c.err }) hc
  have hinit : controlOf (doInit s) = controlOf (doInit t) :=
    congrArg (fun c : Control => { c with phase := .fresh, err := 0 }) hc
  have habsorb : controlOf (doAbsorb s) = controlOf (doAbsorb t) :=
    congrArg (fun c : Control => { c with phase := .absorbing, permActive := true, round := 0 }) hc
  have hfinal : ∀ len len', controlOf (doAbsorbFinal len s) = controlOf (doAbsorbFinal len' t) := fun len len' =>
    congrArg (fun c : Control => { c with phase := .ready, permActive := true, round := 0 }) hc
  have hsqueeze : controlOf (doSqueeze s) = controlOf (doSqueeze t) :=
    congrArg (fun c : Control => { c with phase := .squeezed }) hc
  obtain ⟨-, -, hactive, -, hready⟩ := Control.mk.inj hc
  have hexec := exec_rel (r := fun a b => controlOf a = controlOf b) hc hc hrecord hinit habsorb
    (fun len => hfinal len len) hsqueeze
  exact ⟨fun w => acceptCmd_rel (busy_congr hactive hready) hrecord hexec,
    fun len len' => accept_rel mayAbsorb _ _ hc hc hrecord (hfinal len len'), permTurn_control hc, genTurn_control hc⟩

end Sys2Proof

/-! SUPPORT. The layers' inverses, and a round of the zero state (spec R122 to R126, R133). -/

namespace Sys2Proof

open Sys2Proof.Machine Sys2Proof.Stated

namespace Machine

/-- A rotation by `m` undoes a rotation by `n` where the two make a full turn. -/
theorem rotl_rotl (x : Word) {m n : BitVec 5} (h : n.toNat + m.toNat = 32) : rotl (rotl x n) m = x := by
  ext i hi
  simp only [rotl, BitVec.getElem_rotateLeft]
  split_ifs <;> grind

/-- Injecting the same slice twice cancels (R125). -/
theorem inject_involutive (rc : Words 688) (r : Fin 43) : Function.Involutive (inject rc r) := by
  intro S
  ext1 i hi
  rw [inject_getElem, inject_getElem, BitVec.xor_assoc, BitVec.xor_self]
  exact BitVec.xor_zero

/-- The second word a pair comes from, out of the two words ARX makes of it (R126). -/
def arxInvSnd (x y : Word) : Word := rotl (y - x) 8

/-- The first word a pair comes from. -/
def arxInvFst (x y : Word) : Word := rotl x 24 - arxInvSnd x y

theorem arxInv_arx (x y : Word) :
    arxInvFst (arxFst x y) (arxSnd x y) = x ∧ arxInvSnd (arxFst x y) (arxSnd x y) = y := by
  have hsnd : arxInvSnd (arxFst x y) (arxSnd x y) = y := by
    rw [arxInvSnd, arxSnd, BitVec.add_sub_cancel, rotl_rotl y (by decide)]
  refine ⟨?_, hsnd⟩
  rw [arxInvFst, hsnd, arxFst, rotl_rotl _ (by decide), BitVec.add_sub_cancel]

theorem arx_arxInv (x y : Word) :
    arxFst (arxInvFst x y) (arxInvSnd x y) = x ∧ arxSnd (arxInvFst x y) (arxInvSnd x y) = y := by
  have hfst : arxFst (arxInvFst x y) (arxInvSnd x y) = x := by
    rw [arxFst, arxInvFst, BitVec.sub_add_cancel, rotl_rotl x (by decide)]
  refine ⟨hfst, ?_⟩
  rw [arxSnd, hfst, arxInvSnd, rotl_rotl _ (by decide), BitVec.sub_add_cancel]

/-- ARX undone, on the pairs (2i, 2i+1). -/
def arxInv (S : Words 16) : Words 16 :=
  Vector.ofFn fun i =>
    if i.val % 2 = 0 then arxInvFst S[2 * (i.val / 2)] S[2 * (i.val / 2) + 1]
    else arxInvSnd S[2 * (i.val / 2)] S[2 * (i.val / 2) + 1]

theorem arxInv_getElem_fst (S : Words 16) (i : Nat) (h : i < 8) :
    (arxInv S)[2 * i] = arxInvFst S[2 * i] S[2 * i + 1] := by
  simp [arxInv]

theorem arxInv_getElem_snd (S : Words 16) (i : Nat) (h : i < 8) :
    (arxInv S)[2 * i + 1] = arxInvSnd S[2 * i] S[2 * i + 1] := by
  have hdiv : (2 * i + 1) / 2 = i := by omega
  simp [arxInv, hdiv]

/-- Two states that agree on both words of every pair are one state. -/
theorem eq_of_pairs {S T : Words 16}
    (h : ∀ i (_ : i < 8), S[2 * i] = T[2 * i] ∧ S[2 * i + 1] = T[2 * i + 1]) : S = T := by
  ext1 k hk
  obtain ⟨hfst, hsnd⟩ := h (k / 2) (by omega)
  rcases Nat.mod_two_eq_zero_or_one k with hmod | hmod
  · have hk' : 2 * (k / 2) = k := by omega
    simpa only [hk'] using hfst
  · have hk' : 2 * (k / 2) + 1 = k := by omega
    simpa only [hk'] using hsnd

theorem arx_bijective : Function.Bijective arx := by
  refine Function.bijective_iff_has_inverse.mpr ⟨arxInv, fun S => ?_, fun S => ?_⟩ <;>
    refine eq_of_pairs fun i hi => ?_
  · rw [arxInv_getElem_fst _ i hi, arxInv_getElem_snd _ i hi, arx_getElem_fst S i hi, arx_getElem_snd S i hi]
    exact arxInv_arx _ _
  · rw [arx_getElem_fst _ i hi, arx_getElem_snd _ i hi, arxInv_getElem_fst S i hi, arxInv_getElem_snd S i hi]
    exact arx_arxInv _ _

/-- Injecting into the zero state gives the slice (R125). -/
theorem inject_zero (rc : Words 688) (r : Fin 43) :
    inject rc r (Vector.replicate 16 0) = Vector.ofFn fun i => rc.toList.getD (16 * r.val + i.val) 0 := by
  ext1 i hi
  rw [inject_getElem, Vector.getElem_replicate, Vector.getElem_ofFn, getD_toList]
  exact BitVec.zero_xor

end Machine

/-- Settles O44: each pair of words is recovered from the two that ARX makes of it, and Inject is its own inverse. -/
theorem arxAndInjectInvertible : Obligations.ArxAndInjectInvertible := by
  unfold Obligations.ArxAndInjectInvertible
  exact ⟨arx_bijective, fun rc r => (inject_involutive rc r).bijective⟩

/-- Settles O45: BitMat and Circ, the layers of the two tables, give 0 from 0. -/
theorem roundOfZeroNeedsNoOpenParameter : Obligations.RoundOfZeroNeedsNoOpenParameter := by
  unfold Obligations.RoundOfZeroNeedsNoOpenParameter
  intro m coef rc r
  have hcirc : circ coef (bitMat m (Vector.replicate 16 0)) = Vector.replicate 16 0 :=
    (congrArg (circ coef) (bitMat_zero m)).trans (circ_zero coef)
  rw [roundFn, hcirc, inject_zero]

end Sys2Proof

/-! SUPPORT. The permutation engine's steps and whole permutations (spec R129, R131, R249). -/

namespace Sys2Proof

open Sys2Proof.Machine Sys2Proof.Stated

namespace Machine

/-- A round, which counts itself, and the last of which ends the permutation (R129). -/
theorem permTurn_of_active {s : State} (hactive : s.permActive = true) {n : Nat} (hround : s.round.toNat = n)
    (hn : n < 43) : permTurn s = .next { s with
      S := blockRound s.rc ⟨n, hn⟩ s.S
      permActive := decide (n + 1 ≠ 43)
      round := if n + 1 = 43 then 0 else s.round + 1 } := by
  subst hround
  rw [permTurn_eq, if_pos hactive]
  rcases permRound_cases s with ⟨_, hlast, hr⟩ | ⟨_, hnot, hr⟩ | ⟨hge, -⟩
  · simp [hr, hlast]
  · simp [hr, hnot, hactive]
  · exact absurd hn (Nat.not_lt.mpr hge)

/-- A round index out of range is the model fault (R128). -/
theorem permTurn_of_out_of_range {s : State} (hactive : s.permActive = true) (h : 43 ≤ s.round.toNat) :
    permTurn s = .fault .assertRoundIndex := by
  rw [permTurn_eq, if_pos hactive]
  rcases permRound_cases s with ⟨hlt, -⟩ | ⟨hlt, -⟩ | ⟨-, hr⟩
  · exact absurd hlt (Nat.not_lt.mpr h)
  · exact absurd hlt (Nat.not_lt.mpr h)
  · exact hr

/-- An order of turns in which the engine takes each step of a running permutation, with `ready` as RC_READY:
`turnsAt k` are the turns named when it is to take `k` more. -/
def EngineOrder (ready : Bool) (turnsAt : Nat → List Agent) : Prop :=
  ∀ (k : Nat) (s : State), s.permActive = true → s.rcReady = ready → s.turns = turnsAt (k + 1) →
    step s = permTurn { s with turns := turnsAt k }

/-- The turns may name the engine each time (R62). -/
theorem engineOrder_named (ready : Bool) (ts : List Agent) :
    EngineOrder ready fun k => List.replicate k .permEngine ++ ts :=
  fun _ _ _ _ hturns => step_of_turns_cons hturns

/-- With no turns named, the default order gives the engine each step, once the table is ready (R249). -/
theorem engineOrder_default : EngineOrder true fun _ => [] := by
  intro k s hactive hready (hturns : s.turns = [])
  have hsame : ({ s with turns := [] } : State) = s := by rw [← hturns]
  rw [step_of_turns_nil hturns, hsame]
  simp [defaultAgent, hready, hactive, agentTurn]

/-- The state after n rounds of the permutation of `s`, with `ts` as the turns that remain (R131). -/
def afterRounds (n : Nat) (ts : List Agent) (s : State) : State :=
  { s with turns := ts, S := roundsFn Config.bitMatrix Config.coef s.rc n s.S, round := BitVec.ofNat 8 n }

/-- The state after the whole permutation of `s` (R131). -/
def afterPerm (ts : List Agent) (s : State) : State :=
  { s with turns := ts, S := perm Config.bitMatrix Config.coef s.rc s.S, permActive := false, round := 0 }

theorem afterRounds_zero {s : State} (hround : s.round = 0) : afterRounds 0 s.turns s = s := by
  have hround' : BitVec.ofNat 8 0 = s.round := hround.symm
  rw [afterRounds, hround']
  rfl

section

variable {s : State} (hactive : s.permActive = true)
include hactive

/-- A round that is not the last leads to the state after one round more (R121, R129). -/
theorem permTurn_afterRounds {n : Nat} (hn : n + 1 < 43) (ts : List Agent) :
    permTurn (afterRounds n ts s) = .next (afterRounds (n + 1) ts s) := by
  have hround : (afterRounds n ts s).round.toNat = n := Nat.mod_eq_of_lt (show n < 2 ^ 8 by omega)
  have hsucc : BitVec.ofNat 8 n + 1 = BitVec.ofNat 8 (n + 1) := (BitVec.ofNat_add n 1).symm
  have hnot : n + 1 ≠ 43 := by omega
  rw [permTurn_of_active (s := afterRounds n ts s) hactive hround (by omega), if_neg hnot, decide_eq_true hnot,
    ← hactive]
  simp only [afterRounds, hsucc, roundsFn_succ _ _ _ n (show n < 43 by omega)]
  rfl

/-- The last round leads to the state after the whole permutation (R121, R129). -/
theorem permTurn_afterRounds_last (ts : List Agent) :
    permTurn (afterRounds 42 ts s) = .next (afterPerm ts s) := by
  have hactive' : (afterRounds 42 ts s).permActive = true := by simpa [afterRounds] using hactive
  rw [permTurn_of_active hactive' (n := 42) (by simp [afterRounds]) (by decide)]
  simp [afterRounds, afterPerm, ← roundsFn_all, roundsFn_succ _ _ _ 42 (show 42 < 43 by decide), blockRound]

variable {turnsAt : Nat → List Agent} (horder : EngineOrder s.rcReady turnsAt)
include horder

theorem step_afterRounds (n k : Nat) :
    step (afterRounds n (turnsAt (k + 1)) s) = permTurn (afterRounds n (turnsAt k) s) :=
  horder k (afterRounds n (turnsAt (k + 1)) s) hactive rfl rfl

variable (hround : s.round = 0) (hturns : s.turns = turnsAt 43)
include hround hturns

/-- Where the engine takes each step, n steps are n rounds (R131). -/
theorem run_rounds {n k : Nat} (hnk : n + (k + 1) = 43) :
    core.run n s = .next (afterRounds n (turnsAt (k + 1)) s) := by
  induction n generalizing k with
  | zero =>
    obtain rfl : k = 42 := by omega
    rw [← hturns, afterRounds_zero hround]
    rfl
  | succ n ih =>
    have hstep : step (afterRounds n (turnsAt (k + 1 + 1)) s) = .next (afterRounds (n + 1) (turnsAt (k + 1)) s) :=
      (step_afterRounds hactive horder n (k + 1)).trans (permTurn_afterRounds hactive (by omega) _)
    rw [run_add (ih (k := k + 1) (by omega)), run_one hstep]

/-- The whole permutation takes 43 steps (R131). -/
theorem run_perm : core.run 43 s = .next (afterPerm (turnsAt 0) s) := by
  have hstep : step (afterRounds 42 (turnsAt 1) s) = .next (afterPerm (turnsAt 0) s) :=
    (step_afterRounds hactive horder 42 0).trans (permTurn_afterRounds_last hactive _)
  exact (run_add (run_rounds hactive horder hround hturns rfl)).trans (run_one hstep)

end

/-- From any round on, the engine's steps end the permutation, and write only S, PERM_ACTIVE and ROUND (R129, R249). -/
theorem run_to_end {turnsAt : Nat → List Agent} {k : Nat} {s : State} (horder : EngineOrder s.rcReady turnsAt)
    (hactive : s.permActive = true) (hround : s.round.toNat + (k + 1) = 43) (hturns : s.turns = turnsAt (k + 1)) :
    ∃ S, core.run (k + 1) s = .next { s with turns := turnsAt 0, S := S, permActive := false, round := 0 } := by
  induction k generalizing s with
  | zero =>
    have hlast : s.round.toNat = 42 := by omega
    have hstep := (horder 0 s hactive rfl hturns).trans
      (permTurn_of_active (s := { s with turns := turnsAt 0 }) hactive hlast (by decide))
    exact ⟨_, run_one hstep⟩
  | succ k ih =>
    have hlt : s.round.toNat < 43 := by omega
    have hnot : s.round.toNat + 1 ≠ 43 := by omega
    have hnext : (s.round + 1).toNat + (k + 1) = 43 := by bv_omega
    have hstep := (horder (k + 1) s hactive rfl hturns).trans
      (permTurn_of_active (s := { s with turns := turnsAt (k + 1) }) hactive rfl hlt)
    rw [if_neg hnot, decide_eq_true hnot] at hstep
    obtain ⟨S, hrun⟩ := ih (s := { s with
      turns := turnsAt (k + 1)
      S := blockRound s.rc ⟨s.round.toNat, hlt⟩ s.S
      permActive := true
      round := s.round + 1 }) horder rfl hnext rfl
    exact ⟨S, by rw [Nat.add_comm, run_add (run_one hstep)]; exact hrun⟩

end Machine

/-- Settles O38: the round's layers are the model's `blockRound`, on BIT_MATRIX and COEF of the configuration. -/
theorem permRoundStep : Obligations.PermRoundStep := by
  unfold Obligations.PermRoundStep
  intro s ts hturns
  have hstep : step s = permTurn { s with turns := ts } := step_of_turns_cons hturns
  rw [hstep]
  exact ⟨fun h hactive => permTurn_of_active (s := { s with turns := ts }) hactive rfl h,
    fun h hactive => permTurn_of_out_of_range hactive h, fun hactive => permTurn_of_idle hactive⟩

/-- Settles O39: the turns name the engine 43 times, once for each round. -/
theorem permutationEndsAfterAllRounds : Obligations.PermutationEndsAfterAllRounds := by
  unfold Obligations.PermutationEndsAfterAllRounds
  intro s ts hactive hround hturns
  have horder := engineOrder_named s.rcReady ts
  refine ⟨fun n hn => ?_, run_perm hactive horder hround hturns⟩
  obtain ⟨k, hk⟩ : ∃ k, 43 - n = k + 1 := ⟨42 - n, by omega⟩
  rw [hk]
  exact run_rounds hactive horder hround hturns (by omega)

end Sys2Proof

/-! SUPPORT. Progress, and a command beside the last round (spec R215, R247, R249). -/

namespace Sys2Proof

open Sys2Proof.Machine Sys2Proof.Stated

/-- The invariant holds along every run. -/
theorem BlockInv.run {n : Nat} {s t : State} (hs : BlockInv s) (h : core.run n s = .next t) : BlockInv t := by
  induction n generalizing s with
  | zero => cases h; exact hs
  | succ n ih =>
    simp only [Host.Core.run] at h
    cases hstep : core.step s with
    | next u => rw [hstep] at h; exact ih (stepKeepsInv s u hs hstep) h
    | fault f => rw [hstep] at h; cases h
    | refused r => rw [hstep] at h; cases h

/-- Before GEN no permutation runs. -/
theorem BlockInv.permActive_of_not_ready {s : State} (hs : BlockInv s) (hready : s.rcReady = false) :
    s.permActive = false := by
  by_contra hactive
  rw [hs.activeReady (by simpa using hactive)] at hready
  cases hready

namespace Machine

theorem run_two {s t u : State} (hst : step s = .next t) (htu : step t = .next u) : core.run 2 s = .next u :=
  (run_add (run_one hst)).trans (run_one htu)

/-- In the default order the generator, or the engine with the rounds that remain, ends BUSY (R249). -/
theorem exists_run_to_idle {s : State} (hs : BlockInv s) (hturns : s.turns = []) :
    ∃ n t, n ≤ 43 ∧ core.run n s = .next t ∧ busy t = false ∧ t = { s with
      S := t.S, permActive := t.permActive, round := t.round, rc := t.rc, rcReady := t.rcReady } := by
  cases hready : s.rcReady with
  | false =>
    have hstep : step s = .next (genStep s) := by
      rw [step_of_turns_nil hturns]
      simp [defaultAgent, hready, agentTurn, genTurn_of_not_ready hready]
    exact ⟨1, genStep s, by decide, run_one hstep, busy_eq_false.mpr ⟨hs.permActive_of_not_ready hready, rfl⟩, rfl⟩
  | true =>
    cases hactive : s.permActive with
    | false => exact ⟨0, s, by decide, rfl, busy_eq_false.mpr ⟨hactive, hready⟩, rfl⟩
    | true =>
      have hlegal : s.round.toNat < 43 := hs.roundLegal
      obtain ⟨k, hk⟩ : ∃ k, s.round.toNat + (k + 1) = 43 := ⟨42 - s.round.toNat, by omega⟩
      obtain ⟨S, hrun⟩ := run_to_end (hready ▸ engineOrder_default) hactive hk hturns
      exact ⟨k + 1, _, by omega, hrun, busy_eq_false.mpr ⟨rfl, hready⟩, by rw [hturns]⟩

/-- The state after the last round of a permutation, with what it made of S, and `ts` as the turns that remain. -/
def afterLastRound (S : Words 16) (ts : List Agent) (s : State) : State :=
  { s with turns := ts, S := S, permActive := false, round := 0 }

/-- The last round ends the permutation (R129). -/
theorem step_last_round {s : State} {S : Words 16} {ts : List Agent} (hturns : s.turns = .permEngine :: ts)
    (hactive : s.permActive = true) (hround : s.round = 42) (hS : blockRound s.rc 42 s.S = S) :
    step s = .next (afterLastRound S ts s) := by
  subst hS
  have hlast : s.round.toNat = 42 := by rw [hround]; rfl
  rw [step_of_turns_cons hturns]
  exact permTurn_of_active (s := { s with turns := ts }) hactive hlast (by decide)

/-- The host's turn on a command written to CMD is the command (R58, R185). -/
theorem hostTurn_command {s : State} {i : Instr} {rest : List HostLine} (h : s.host = wrCmd i :: rest) :
    hostTurn s = exec i { s with host := rest } := by
  rw [hostTurn_wr h]
  exact (regWrite_cmd _ _).trans (acceptCmd_of_decode (decode_encode i) _)

section

variable {s : State} {i : Instr} {rest : List HostLine} {ts : List Agent} (hturns : s.turns = .host :: ts)
  (hhost : s.host = wrCmd i :: rest)
include hturns hhost

theorem step_host_command : step s = exec i { s with turns := ts, host := rest } := by
  rw [step_of_turns_cons hturns]
  exact hostTurn_command (s := { s with turns := ts }) hhost

/-- A command written while busy records ERR_BUSY (R150, R243). -/
theorem step_host_command_of_busy (hb : busy s = true) :
    step s = .next (recordErr 2 { s with turns := ts, host := rest }) :=
  (step_host_command hturns hhost).trans (exec_of_busy (s := { s with turns := ts, host := rest }) hb i)

/-- SQUEEZE written in READY is accepted, if neither BUSY nor the lock stops it (R150, R155). -/
theorem step_host_squeeze_of_ready (hi : i = .squeeze) (hb : busy s = false) (he : s.err = 0)
    (hp : s.phase = .ready) : step s = .next (doSqueeze { s with turns := ts, host := rest }) := by
  subst hi
  exact (step_host_command hturns hhost).trans
    (exec_squeeze_of_ready (s := { s with turns := ts, host := rest }) hb he hp)

end

end Machine

/-- Settles O54: the run to the end of BUSY is engines' steps, which leave the host's lines, PHASE and ERR. -/
theorem busyEnds : Obligations.BusyEnds := by
  unfold Obligations.BusyEnds
  intro s hs hturns
  obtain ⟨n, t, hn, hrun, hb, hframe⟩ := exists_run_to_idle hs hturns
  exact ⟨n, t, hn, hrun, hb, by rw [hframe], by rw [hframe], by rw [hframe]⟩

/-- Settles O55: after the last round nothing keeps SQUEEZE from acceptance in READY, and before it BUSY does. -/
theorem raceHasBothOutcomes : Obligations.RaceHasBothOutcomes := by
  unfold Obligations.RaceHasBothOutcomes
  intro s rest ts hactive hround hready herr hphase hhost
  have hhost' : s.host = wrCmd .squeeze :: rest := hhost
  generalize hS : blockRound s.rc 42 s.S = S
  constructor
  · have hengine := step_last_round (s := { s with turns := .permEngine :: .host :: ts }) rfl hactive hround hS
    have hcmd := step_host_squeeze_of_ready (s := afterLastRound S (.host :: ts) s) rfl hhost' rfl
      (busy_eq_false.mpr ⟨rfl, hready⟩) herr hphase
    exact ⟨_, run_two hengine hcmd, rfl, herr, rfl, rfl⟩
  · have hcmd := step_host_command_of_busy (s := { s with turns := .host :: .permEngine :: ts }) rfl hhost'
      (busy_eq_true.mpr (.inl hactive))
    have hengine := step_last_round (s := recordErr 2 { s with turns := .permEngine :: ts, host := rest }) rfl
      hactive hround hS
    exact ⟨_, run_two hcmd hengine, hphase, if_pos herr, rfl, rfl, rfl⟩

end Sys2Proof

/-! SUPPORT. The blocks that the host's loads and the commands form (spec R53, R89, R154, R156 to R158, R160). -/

namespace Sys2Proof

open Sys2Proof.Machine Sys2Proof.Stated

namespace Machine

/-- The lanes of a word packed little-endian are the bytes it was packed from (R52, R104). -/
theorem lane_packLE (b0 b1 b2 b3 : Byte) : lane (packLE b0 b1 b2 b3) 0 = b0 ∧ lane (packLE b0 b1 b2 b3) 1 = b1 ∧
    lane (packLE b0 b1 b2 b3) 2 = b2 ∧ lane (packLE b0 b1 b2 b3) 3 = b3 := by
  unfold lane packLE
  refine ⟨?_, ?_, ?_, ?_⟩
  · exact BitVec.extractLsb'_append_eq_right
  · rw [BitVec.extractLsb'_append_eq_of_le (by decide)]
    exact BitVec.extractLsb'_append_eq_right
  · rw [BitVec.extractLsb'_append_eq_of_le (by decide), BitVec.extractLsb'_append_eq_of_le (by decide)]
    exact BitVec.extractLsb'_append_eq_right
  · rw [BitVec.extractLsb'_append_eq_of_le (by decide), BitVec.extractLsb'_append_eq_of_le (by decide)]
    exact BitVec.extractLsb'_append_eq_left

/-- A lane of a DIN word of LOADBLK or LOADFINAL is a byte of the list (R89). -/
theorem lane_dinWordOf (bytes : List Byte) (fill : Byte) (j k : Nat) (hk : k < 4) :
    lane (dinWordOf bytes fill j) k = bytes.getD (4 * j + k) fill := by
  obtain ⟨h0, h1, h2, h3⟩ := lane_packLE (bytes.getD (4 * j) fill) (bytes.getD (4 * j + 1) fill)
    (bytes.getD (4 * j + 2) fill) (bytes.getD (4 * j + 3) fill)
  match k, hk with
  | 0, _ => exact h0
  | 1, _ => exact h1
  | 2, _ => exact h2
  | 3, _ => exact h3

/-- So a byte of DIN is a byte of the list, where its word was loaded. -/
theorem dinByte_of_loaded {din : Words 8} {bytes : List Byte} {fill : Byte} {b : Nat} (hb : b < 32)
    (hword : din[b / 4] = dinWordOf bytes fill (b / 4)) : dinByte din ⟨b, hb⟩ = bytes.getD b fill := by
  rw [dinByte, hword, lane_dinWordOf bytes fill _ _ (Nat.mod_lt b (by decide)), Nat.div_add_mod]

/-- The padded message is the message, the delimiter and zeros (R156), and the zeros go on past its end. -/
theorem pad_getD (M : List Byte) (n : Nat) : (pad M).getD n 0x00 =
    if n < M.length then M.getD n 0x00 else if n = M.length then Config.delimiter else 0x00 := by
  simp only [pad, List.append_assoc, List.singleton_append, List.getD_eq_getElem?_getD]
  split_ifs with hlt heq
  · rw [List.getElem?_append_left hlt]
  · rw [List.getElem?_append_right (by omega)]; simp [heq]
  · obtain ⟨k, hk⟩ : ∃ k, n - M.length = k + 1 := ⟨n - M.length - 1, by omega⟩
    rw [List.getElem?_append_right (by omega), hk, List.getElem?_cons_succ, List.getElem?_replicate]
    split <;> rfl

/-- A byte of a piece of the message is a byte of the message. -/
theorem getD_drop_of_lt {M : List Byte} {k b : Nat} (fill : Byte) (h : k + b < M.length) :
    (M.drop k).getD b fill = M.getD (k + b) 0x00 := by
  rw [List.getD_eq_getElem _ _ (by rw [List.length_drop]; omega), List.getElem_drop, List.getD_eq_getElem _ _ h]

theorem getD_take_of_lt {l : List Byte} {n b : Nat} {d : Byte} (h : b < n) : (l.take n).getD b d = l.getD b d := by
  rw [List.getD_eq_getElem?_getD, List.getElem?_take_of_lt h, List.getD_eq_getElem?_getD]

/-- ABSORB_FINAL 0 has the same block whatever DIN holds: the delimiter and zeros (R154, R160). -/
theorem finalBlock_zero (din : Words 8) : finalBlock din 0 = (Vector.replicate 32 0x00).set 0 0x06 := by
  have hlen : (0 : BitVec 5).toNat = 0 := rfl
  ext1 b hb
  rw [finalBlock_getElem, hlen, if_neg (Nat.not_lt_zero b), Vector.getElem_set, Vector.getElem_replicate]
  simp only [eq_comm (a := b)]
  rfl

end Machine

/-- Settles O57: a loaded byte is a message byte, and the message ends where ABSORB_FINAL writes the delimiter. -/
theorem commandBlocksArePaddedBlocks : Obligations.CommandBlocksArePaddedBlocks := by
  unfold Obligations.CommandBlocksArePaddedBlocks
  intro M din
  constructor
  · intro i hi hwords
    ext1 b hb
    have hin : 32 * i + b < M.length := by omega
    have hword := hwords ⟨b / 4, by omega⟩
    rw [dinBlock_getElem, dinByte_of_loaded hb hword, getD_take_of_lt hb, getD_drop_of_lt _ hin, blockOf_getElem,
      pad_getD, if_pos hin]
  · intro fill hwords
    have hlen : (BitVec.ofNat 5 (M.length % 32)).toNat = M.length % 32 := by simp
    ext1 b hb
    have hin : 32 * (M.length / 32) + b < M.length ↔ b < M.length % 32 := by omega
    have hend : 32 * (M.length / 32) + b = M.length ↔ b = M.length % 32 := by omega
    rw [finalBlock_getElem, blockOf_getElem, pad_getD, hlen]
    simp only [hin, hend]
    split
    case isTrue hlt =>
      have hword := hwords ⟨b / 4, by omega⟩ (by dsimp only; omega)
      rw [dinByte_of_loaded hb hword, getD_drop_of_lt _ (hin.mpr hlt)]
    case isFalse => rfl

/-- Settles O58: INIT makes S zero, and the one word of the block that is not zero is 0x06000000. -/
theorem emptyMessageBlock : Obligations.EmptyMessageBlock := by
  unfold Obligations.EmptyMessageBlock
  intro s hb
  have hblock : xorRate (Vector.replicate 16 0) (finalBlock s.din 0) = (Vector.replicate 16 0).set 0 0x06000000 := by
    rw [finalBlock_zero]
    decide
  exact ⟨doInit s, doAbsorbFinal 0 (doInit s), exec_init_of_idle hb,
    exec_absorbFinal_of_allowed (s := doInit s) hb rfl (.inl rfl) 0, hblock, rfl, rfl, rfl⟩

end Sys2Proof

/-! SUPPORT. The host's HASH M, line by line, in the default order (spec R88, R89, R158, R159, R249). -/

namespace Sys2Proof

open Sys2Proof.Machine Sys2Proof.Stated

namespace Machine

/-! ### Runs -/

/-- Some run leads from `s` to `t`. -/
def Reaches (s t : State) : Prop := ∃ n, core.run n s = .next t

theorem Reaches.refl (s : State) : Reaches s s := ⟨0, rfl⟩

theorem Reaches.trans {s t u : State} (hst : Reaches s t) (htu : Reaches t u) : Reaches s u := by
  obtain ⟨m, hm⟩ := hst
  obtain ⟨n, hn⟩ := htu
  exact ⟨m + n, (run_add hm).trans hn⟩

theorem Reaches.of_step {s t : State} (h : step s = .next t) : Reaches s t := ⟨1, run_one h⟩

/-! ### The lines of an idle block's host -/

/-- With no turns named and BUSY = 0, the step is the host's (R249). -/
structure Idle (s : State) : Prop where
  turns : s.turns = []
  busy  : busy s = false

/-- STATUS bit 0 is BUSY (R33). -/
theorem statusWord_and_one {s : State} (hb : busy s = false) : statusWord s &&& 0x1 = 0x0 := by
  have hmod : (statusWord s &&& 0x1).toNat = (statusWord s).toNat % 2 ^ 1 :=
    Nat.and_two_pow_sub_one_eq_mod (statusWord s).toNat 1
  apply BitVec.eq_of_toNat_eq
  rw [hmod, statusWord, hb, BitVec.toNat_append, Nat.shiftLeft_eq]
  simp

section

variable {s : State} {rest : List HostLine} (hs : Idle s)
include hs

theorem Idle.step : step s = hostTurn s := step_of_idle hs.turns hs.busy

/-- WAIT is done at once (R89). -/
theorem Idle.reaches_wait (hhost : s.host = waitLine :: rest) : Reaches s { s with host := rest } := by
  have hturn : hostTurn s = .next (if statusWord s &&& 0x1 = 0x0 then { s with host := rest } else s) :=
    hostTurn_poll hhost (regRead_regOffset .status s)
  rw [if_pos (statusWord_and_one hs.busy)] at hturn
  exact .of_step (hs.step.trans hturn)

/-- A command is run (R185). -/
theorem Idle.reaches_command {i : Instr} {t : State} (hhost : s.host = wrCmd i :: rest)
    (hexec : exec i { s with host := rest } = .next t) : Reaches s t :=
  .of_step (hs.step.trans ((hostTurn_command hhost).trans hexec))

/-- A write to a DIN register sets its word (R187). -/
theorem Idle.reaches_load {j : Fin 8} {v : Word} (hhost : s.host = wrReg (.din j) v :: rest) :
    Reaches s (writeDin j v { s with host := rest }) :=
  .of_step (hs.step.trans ((hostTurn_wr hhost).trans (regWrite_regOffset (.din j) v _)))

/-- Writes to DIN registers leave each named one with its word, and the others as they were (R187). -/
theorem Idle.reaches_loads {js : List (Fin 8)} {f : Fin 8 → Word}
    (hhost : s.host = js.map (fun j => wrReg (.din j) (f j)) ++ rest) :
    ∃ din : Words 8, (∀ k : Fin 8, din[k.val] = if k ∈ js then f k else s.din[k.val]) ∧
      Reaches s { s with din := din, host := rest } := by
  induction js generalizing s with
  | nil =>
    have hrest : s.host = rest := hhost
    exact ⟨s.din, fun _ => rfl, hrest ▸ .refl s⟩
  | cons j js ih =>
    have hload := hs.reaches_load (j := j) (v := f j) hhost
    obtain ⟨din, hdin, hreach⟩ := ih (s := writeDin j (f j) { s with
      host := js.map (fun j => wrReg (.din j) (f j)) ++ rest }) ⟨hs.turns, hs.busy⟩ rfl
    refine ⟨din, fun k => ?_, hload.trans hreach⟩
    have hset : (s.din.set j.val (f j))[k.val] = if k = j then f j else s.din[k.val] :=
      readReg_din_writeDin j k (f j) s
    rw [hdin, writeDin_din, hset]
    by_cases hkj : k = j <;> by_cases hmem : k ∈ js <;> simp [hkj, hmem]

/-- Reads of DOUT registers are delivered in order (R88, R189). -/
theorem Idle.reaches_reads {js : List (Fin 8)} (hhost : s.host = js.map (fun j => rdReg (.dout j)) ++ rest) :
    Reaches s { s with host := rest, reads := (js.map fun j => s.dout[j.val]).reverse ++ s.reads } := by
  induction js generalizing s with
  | nil =>
    have hrest : s.host = rest := hhost
    exact hrest ▸ .refl s
  | cons j js ih =>
    have hread := Reaches.of_step (hs.step.trans (hostTurn_rd hhost (regRead_regOffset (.dout j) s)))
    have hreach := hread.trans (ih (s := { s with
      host := js.map (fun j => rdReg (.dout j)) ++ rest, reads := s.dout[j.val] :: s.reads }) ⟨hs.turns, hs.busy⟩ rfl)
    simpa using hreach

end

/-- A permutation and the WAIT that polls for its end (R89, R131): the engine takes every step until it is done. -/
theorem reaches_permuted {s : State} {rest : List HostLine} (hturns : s.turns = []) (hready : s.rcReady = true)
    (hactive : s.permActive = true) (hround : s.round = 0) (hhost : s.host = waitLine :: rest) :
    Reaches s { afterPerm [] s with host := rest } := by
  have hperm : Reaches s (afterPerm [] s) :=
    ⟨43, run_perm hactive (turnsAt := fun _ => []) (hready ▸ engineOrder_default) hround hturns⟩
  have hidle : Idle (afterPerm [] s) := ⟨rfl, busy_eq_false.mpr ⟨rfl, by simp [afterPerm, hready]⟩⟩
  exact hperm.trans (hidle.reaches_wait (rest := rest) (by simp [afterPerm, hhost]))

/-- `t` is `s` after a block is absorbed and its permutation has ended, with `rest` the lines to come (R153, R154). -/
structure Absorbed (B : Block) (p : Phase) (rest : List HostLine) (s t : State) : Prop extends Idle t where
  table : t.rc = s.rc
  err   : t.err = s.err
  phase : t.phase = p
  words : t.S = blockPerm s.rc (xorRate s.S B)
  lines : t.host = rest
  reads : t.reads = s.reads

/-- An absorb command and the WAIT after it (R89, R159). -/
theorem Idle.reaches_absorbed {s : State} (hs : Idle s) {i : Instr} {B : Block} {p : Phase} {rest : List HostLine}
    (hhost : s.host = wrCmd i :: waitLine :: rest)
    (hexec : exec i { s with host := waitLine :: rest } = .next (absorbBlock B p { s with host := waitLine :: rest })) :
    ∃ t, Reaches s t ∧ Absorbed B p rest s t := by
  obtain ⟨-, hready⟩ := busy_eq_false.mp hs.busy
  have hperm := reaches_permuted (s := absorbBlock B p { s with host := waitLine :: rest }) (rest := rest)
    (by simp [hs.turns]) (by simp [hready]) (by simp) (by simp) (by simp)
  refine ⟨_, (hs.reaches_command hhost hexec).trans hperm, ?_⟩
  exact {
    turns := rfl
    busy := busy_eq_false.mpr ⟨rfl, by simp [afterPerm, hready]⟩
    table := by simp [afterPerm]
    err := by simp [afterPerm]
    phase := by simp [afterPerm]
    words := by simp [afterPerm, blockPerm]
    lines := rfl
    reads := by simp [afterPerm] }

/-! ### HASH M -/

/-- The host is in the middle of HASH M: S holds `S`, and `lines` are the lines to come. -/
structure Hashing (S : Words 16) (lines : List HostLine) (reads : List Word) (s : State) : Prop extends Idle s where
  table : s.rc = rcTable
  err   : s.err = 0
  phase : s.phase = .fresh ∨ s.phase = .absorbing
  words : s.S = S
  lines : s.host = lines
  reads : s.reads = reads

/-- WAIT and INIT start a hash from every state that meets the invariant (R152, R159). -/
theorem exists_hashing_of_inv {s : State} {rest : List HostLine} (hs : BlockInv s) (hturns : s.turns = [])
    (hhost : s.host = waitLine :: wrCmd .init :: rest) :
    ∃ t, Reaches s t ∧ Hashing (Vector.replicate 16 0) rest s.reads t := by
  obtain ⟨n, t, -, hrun, hb, hframe⟩ := exists_run_to_idle hs hturns
  have htturns : t.turns = [] := by rw [hframe, hturns]
  have hthost : t.host = waitLine :: wrCmd .init :: rest := by rw [hframe, hhost]
  have htreads : t.reads = s.reads := by rw [hframe]
  obtain ⟨-, hready⟩ := busy_eq_false.mp hb
  have hidle : Idle t := ⟨htturns, hb⟩
  have hidle' : Idle { t with host := wrCmd .init :: rest } := ⟨htturns, hb⟩
  have hinit := hidle'.reaches_command rfl (exec_init_of_idle (s := { t with host := rest }) hb)
  refine ⟨_, (Reaches.trans ⟨n, hrun⟩ (hidle.reaches_wait hthost)).trans hinit, ?_⟩
  exact {
    turns := htturns
    busy := hb
    table := (hs.run hrun).rcTable hready
    err := rfl
    phase := .inl rfl
    words := rfl
    lines := rfl
    reads := htreads }

section

variable {M : List Byte} {S : Words 16} {lines : List HostLine} {reads : List Word} {s : State}

/-- One full block: LOADBLK, ABSORB and WAIT absorb block i of Pad(M) (R158, R159). -/
theorem Hashing.reaches_block {i : Nat} (hs : Hashing S (hashBlockLines M i ++ lines) reads s)
    (hi : i < M.length / 32) :
    ∃ t, Reaches s t ∧ Hashing (blockPerm rcTable (xorRate S (blockOf (pad M) i))) lines reads t := by
  have hhost := hs.lines
  rw [hashBlockLines, loadBlk, List.append_assoc] at hhost
  obtain ⟨din, hdin, hload⟩ := hs.toIdle.reaches_loads hhost
  obtain ⟨hfull, -⟩ := commandBlocksArePaddedBlocks M din
  have hblock : dinBlock din = blockOf (pad M) i := hfull i hi fun j => by rw [hdin, if_pos (List.mem_finRange j)]
  have hidle : Idle { s with din := din, host := wrCmd .absorb :: waitLine :: lines } := ⟨hs.turns, hs.busy⟩
  have hexec := exec_absorb_of_allowed (s := { s with din := din, host := waitLine :: lines }) hs.busy hs.err hs.phase
  obtain ⟨t, habsorb, ht⟩ := hidle.reaches_absorbed (B := dinBlock din) (p := .absorbing) rfl hexec
  refine ⟨t, hload.trans habsorb, ?_⟩
  exact {
    toIdle := ht.toIdle
    table := ht.table.trans hs.table
    err := ht.err.trans hs.err
    phase := .inr ht.phase
    words := by rw [ht.words, hblock, hs.table, hs.words]
    lines := ht.lines
    reads := ht.reads.trans hs.reads }

theorem absorbAll_append_singleton (P : Words 16 → Words 16) (S : Words 16) (blocks : List Block) (B : Block) :
    absorbAll P S (blocks ++ [B]) = P (xorRate (absorbAll P S blocks) B) := by
  simp [absorbAll]

/-- The first n full blocks of HASH M absorb the first n blocks of Pad(M) (R158, R159). -/
theorem Hashing.reaches_blocks {n : Nat} (hn : n ≤ M.length / 32)
    (hs : Hashing S (((List.range n).map (hashBlockLines M)).flatten ++ lines) reads s) :
    ∃ t, Reaches s t ∧
      Hashing (absorbAll (blockPerm rcTable) S ((List.range n).map (blockOf (pad M)))) lines reads t := by
  induction n generalizing lines with
  | zero => exact ⟨s, .refl s, hs⟩
  | succ n ih =>
    rw [List.range_succ, List.map_append, List.flatten_append, List.append_assoc] at hs
    obtain ⟨t, hst, ht⟩ := ih (by omega) hs
    obtain ⟨u, htu, hu⟩ := Hashing.reaches_block (lines := lines) (by simpa using ht) (Nat.lt_of_succ_le hn)
    refine ⟨u, hst.trans htu, ?_⟩
    rw [List.range_succ, List.map_append, List.map_singleton, absorbAll_append_singleton]
    exact hu

theorem mem_take_finRange {n : Nat} {j : Fin 8} (h : j.val < n) : j ∈ (List.finRange 8).take n := by
  rw [List.mem_take_iff_getElem]
  exact ⟨j.val, by simp [h], by simp⟩

/-- Reading DOUT0 to DOUT7 in order reads the words of DOUT. -/
theorem map_finRange_getElem (dout : Words 8) : (List.finRange 8).map (fun j => dout[j.val]) = dout.toList := by
  apply List.ext_getElem <;> simp

/-- SQUEEZE and READDIGEST deliver the rate (R89, R155). -/
theorem Idle.reaches_readout (hs : Idle s) (he : s.err = 0) (hp : s.phase = .ready)
    (hhost : s.host = wrCmd .squeeze :: (readDigest ++ lines)) :
    Reaches s { doSqueeze s with host := lines, reads := (rate s.S).toList.reverse ++ s.reads } := by
  have hidle : Idle (doSqueeze { s with host := readDigest ++ lines }) := ⟨hs.turns, hs.busy⟩
  have hsqueeze := hs.reaches_command hhost
    (exec_squeeze_of_ready (s := { s with host := readDigest ++ lines }) hs.busy he hp)
  have hread := hidle.reaches_reads (js := List.finRange 8) (rest := lines) rfl
  rw [map_finRange_getElem] at hread
  exact hsqueeze.trans hread

/-- LOADFINAL and ABSORB_FINAL absorb the last block of Pad(M), and SQUEEZE and READDIGEST deliver the digest (R89,
R155, R158, R159). -/
theorem Hashing.reaches_digest {fill : Byte}
    (hs : Hashing S (loadFinal fill (M.drop (32 * (M.length / 32))) ++
      (wrCmd (.absorbFinal (BitVec.ofNat 5 (M.length % 32))) :: waitLine :: wrCmd .squeeze :: (readDigest ++ lines)))
      reads s) :
    ∃ t, Reaches s t ∧ t.phase = .squeezed ∧ t.err = 0 ∧ t.host = lines ∧ t.turns = [] ∧
      t.dout = rate (blockPerm rcTable (xorRate S (blockOf (pad M) (M.length / 32)))) ∧
      t.reads = t.dout.toList.reverse ++ reads := by
  have hlength : (M.drop (32 * (M.length / 32))).length = M.length % 32 := by rw [List.length_drop]; omega
  obtain ⟨din, hdin, hload⟩ := hs.toIdle.reaches_loads hs.lines
  obtain ⟨-, hlast⟩ := commandBlocksArePaddedBlocks M din
  have hblock : finalBlock din (BitVec.ofNat 5 (M.length % 32)) = blockOf (pad M) (M.length / 32) :=
    hlast fill fun j hj => by rw [hdin, if_pos (mem_take_finRange (by omega))]
  have hidle : Idle { s with
      din := din
      host := wrCmd (.absorbFinal (BitVec.ofNat 5 (M.length % 32))) :: waitLine :: wrCmd .squeeze ::
        (readDigest ++ lines) } := ⟨hs.turns, hs.busy⟩
  have hexec := exec_absorbFinal_of_allowed
    (s := { s with din := din, host := waitLine :: wrCmd .squeeze :: (readDigest ++ lines) }) hs.busy hs.err hs.phase
    (BitVec.ofNat 5 (M.length % 32))
  obtain ⟨t, habsorb, ht⟩ := hidle.reaches_absorbed (p := .ready) rfl hexec
  have hread := ht.toIdle.reaches_readout (ht.err.trans hs.err) ht.phase ht.lines
  have hwords : t.S = blockPerm rcTable (xorRate S (blockOf (pad M) (M.length / 32))) := by
    simpa only [hs.table, hs.words, hblock] using ht.words
  exact ⟨_, (hload.trans habsorb).trans hread, rfl, ht.err.trans hs.err, rfl, ht.turns, congrArg rate hwords,
    congrArg ((rate t.S).toList.reverse ++ ·) (ht.reads.trans hs.reads)⟩

end

/-- EaglesongHash absorbs the full blocks and then the last one (R157, R159). -/
theorem eaglesongHash_eq (P : Words 16 → Words 16) (M : List Byte) :
    eaglesongHash P M = digestOfDout (rate (P (xorRate
      (absorbAll P (Vector.replicate 16 0) ((List.range (M.length / 32)).map (blockOf (pad M))))
      (blockOf (pad M) (M.length / 32))))) := by
  rw [eaglesongHash, paddedBlocks, blockCount, List.range_succ, List.map_append, List.map_singleton,
    absorbAll_append_singleton]

end Machine

/-- Settles O59, along the lines of HASH M: INIT from any state, a permutation for each full block, and the last block's
before SQUEEZE; each WAIT is the engine's steps and one POLL. -/
theorem hashOfEveryMessage : Obligations.HashOfEveryMessage := by
  unfold Obligations.HashOfEveryMessage
  intro M fill s rest hs hturns hhost
  simp only [hashLines, List.append_assoc, List.cons_append, List.nil_append] at hhost
  obtain ⟨t, hst, ht⟩ := exists_hashing_of_inv hs hturns hhost
  obtain ⟨u, htu, hu⟩ := ht.reaches_blocks le_rfl
  obtain ⟨v, huv, hphase, herr, hrest, hvturns, hdout, hreads⟩ := hu.reaches_digest
  obtain ⟨n, hrun⟩ := (hst.trans htu).trans huv
  exact ⟨n, v, hrun, hphase, herr, hrest, hvturns, by rw [hdout, eaglesongHash_eq], hreads⟩

end Sys2Proof
